-- ==== Sys2Proof/Word.lean ====
section
/-! DEFINITION. The words of RSACORE: every register of the block is 32 bits (R47), bit 0 the least significant (R74). -/

namespace Sys2Proof

/-- A 32-bit word: a register, a digit, a command word (R9, R47, R100). -/
abbrev Word := BitVec 32

/-- An opcode byte (R101) or a fault code (R310). -/
abbrev Byte := BitVec 8

end Sys2Proof
end

