-- ==== Sys2Proof/Config.lean ====
section
/-! DEFINITION. What an implementation fixes (R7) and the one free value of the model, the entropy words (R142). -/

namespace Sys2Proof

/-- The implementation parameters of R7. A machine carries them unchanged for its whole life, and the statements
about it hold for every value of them (log entry 3). -/
structure Config where
  /-- `CAP`, digits per big register: OPEN (R7, P1). -/
  cap : Nat
  /-- `PRIME_COUNT`, entries of the prime ROM (R7, R8, P2). -/
  primeCount : Nat
  /-- `CORE_BASE`, the bus address of the register block: OPEN (R70, P3). -/
  coreBase : Nat
  deriving DecidableEq, Repr

/-- The bounds R7 and R70 put on the parameters. -/
abbrev Config.Valid (c : Config) : Prop :=
  12 ≤ c.cap ∧ c.cap ≤ 8192 ∧ 2 * c.cap ≤ c.primeCount ∧ c.primeCount ≤ 65535 ∧ c.coreBase % 4096 = 0

/-- `L = 2·CAP`, slots per residue vector (R7, R42). -/
def Config.slots (c : Config) : Nat := 2 * c.cap

/-- The parameters of the machine `State.reset` describes: the smallest capacity, the ROM length R8 fixes, and block
address 0. DESIGN CHOICE (log entry 3): the spec leaves CAP and CORE_BASE open. Unsafe for a claim about
`State.reset` alone; safe for a claim over every state. -/
def Config.standard : Config := { cap := 12, primeCount := 16384, coreBase := 0 }

/-- The entropy source (R7, R142, R342, U16): the word delivered by draw number `n`. A FREE VALUE with no body: no
proof can see it, so a claim holds for every draw. DESIGN CHOICE of form, safe (log entry 4). -/
opaque Config.draw32 : Nat → Word

end Sys2Proof
end

