-- ==== Sys2Proof/Syntax.lean ====
section
/-! DEFINITION. The commands of RSACORE: one constructor per row of the opcode table (R104), fields in the order
D, A, B, C, T, U of the command word (R101). -/

namespace Sys2Proof

/-- A big register `b0`..`b15` (R31, R101). -/
abbrev BReg := Fin 16

/-- A residue vector `r0`..`r3` (R42); a vector field of 4 or more is illegal (R105(c)). -/
abbrev VReg := Fin 4

/-- A table bank `t0`, `t1` (R36, field T of R101). -/
abbrev BankNo := Fin 2

/-- The first register of CRT's key group (R102, R290); a group above 11 is illegal (R105(d)). -/
abbrev KeyGroup := Fin 12

/-- Field U of R101: rebuild the bank first, or use it as it stands. -/
inductive Use where
  | fresh
  | reuse
  deriving DecidableEq, Repr

/-- The 36 commands (R104). -/
inductive Instr where
  | nop
  | clr (d : BReg)
  | setone (d : BReg)
  | mov (d a : BReg)
  | setu64 (d : BReg)
  | getu64 (a : BReg)
  | test (a : BReg)
  | cmp (a b : BReg)
  | shl (d a : BReg)
  | shr (d a : BReg)
  | addu64 (d a : BReg)
  | subu64 (d a : BReg)
  | rndodd (d : BReg)
  | add (d a b : BReg)
  | sub (d a b : BReg)
  | mul (d a b : BReg)
  | sqr (d a : BReg)
  /-- quotient `d`, remainder `c`, dividend `a`, divisor `b` (R160) -/
  | div (d a b c : BReg)
  | sdiv (d a : BReg)
  | rem32 (a : BReg)
  | rem64 (a : BReg)
  | gcd (d a b : BReg)
  | inv (d a b : BReg)
  | invse (d a : BReg)
  | smallfact (a : BReg)
  | isqrt (d a : BReg)
  /-- result `d`, value `a`, exponent `b`, modulus `c`, bank `t` (R230) -/
  | modexp (d a b c : BReg) (t : BankNo) (u : Use)
  | fermat (a : BReg) (t : BankNo)
  | fermat1 (a : BReg) (t : BankNo)
  | tblbuild (a : BReg) (t : BankNo)
  | reduce (d a : BReg) (t : BankNo)
  | rvfrom (d : VReg) (a : BReg)
  | rvadd (d a b : VReg)
  | rvsub (d a b : VReg)
  | rvmul (d a b : VReg)
  /-- result `d`, ciphertext `a`, key group `g`.. `g+4` (R290) -/
  | crt (d a : BReg) (g : KeyGroup) (u : Use)
  deriving DecidableEq, Repr

end Sys2Proof
end

