-- ==== Sys2Proof/WellFormed.lean ====
section
/-! DEFINITION. The one legality condition of R105 that the types of `Instr` do not carry already: DIV's quotient and
remainder registers differ (R105(e)). The vector fields (c) and the key group (d) are bounded by their types. -/

namespace Sys2Proof

/-- `i` meets R105(c)-(e). -/
def Instr.wellFormed : Instr → Bool
  | .div d _ _ c => decide (d ≠ c)
  | .nop => true
  | .clr _ => true
  | .setone _ => true
  | .mov _ _ => true
  | .setu64 _ => true
  | .getu64 _ => true
  | .test _ => true
  | .cmp _ _ => true
  | .shl _ _ => true
  | .shr _ _ => true
  | .addu64 _ _ => true
  | .subu64 _ _ => true
  | .rndodd _ => true
  | .add _ _ _ => true
  | .sub _ _ _ => true
  | .mul _ _ _ => true
  | .sqr _ _ => true
  | .sdiv _ _ => true
  | .rem32 _ => true
  | .rem64 _ => true
  | .gcd _ _ _ => true
  | .inv _ _ _ => true
  | .invse _ _ => true
  | .smallfact _ => true
  | .isqrt _ _ => true
  | .modexp _ _ _ _ _ _ => true
  | .fermat _ _ => true
  | .fermat1 _ _ => true
  | .tblbuild _ _ => true
  | .reduce _ _ _ => true
  | .rvfrom _ _ => true
  | .rvadd _ _ _ => true
  | .rvsub _ _ _ => true
  | .rvmul _ _ _ => true
  | .crt _ _ _ _ => true

end Sys2Proof
end

