-- ==== Sys2Proof/Decode.lean ====
section
/-! DEFINITION. The command word: its fields (R101), the opcode map (R104), legality (R105), a total decoder, the encoder,
and the opcode table's masks and match values (R105 says they express legality (a) and (b)). -/

namespace Sys2Proof

/-- Why a word is not legal (R105, R106); each of them is ILLEGAL_COMMAND to the core (R310). -/
inductive DecodeError where
  /-- OP is not one of the 36 opcodes: R105(a), R106. -/
  | reservedOpcode
  /-- RSV or a field the opcode does not use is not 0: R105(b). -/
  | unusedField
  /-- A vector field is 4 or more: R105(c). -/
  | vectorField
  /-- CRT's group is above 11: R105(d). -/
  | keyGroup
  /-- DIV names one register for quotient and remainder: R105(e). -/
  | sameDestination
  deriving DecidableEq, Repr

/-- The fields of a command word (R101). -/
structure Fields where
  op : Nat
  d : Fin 16
  a : Fin 16
  b : Fin 16
  c : Fin 16
  t : Fin 2
  u : Fin 2
  rsv : Nat
  deriving DecidableEq, Repr

/-- The fields of word `w`, by the bit positions of R101. -/
def fieldsOf (w : Word) : Fields :=
  { op := w.toNat / 2 ^ 24
    d := ⟨w.toNat / 2 ^ 20 % 16, Nat.mod_lt _ (by decide)⟩
    a := ⟨w.toNat / 2 ^ 16 % 16, Nat.mod_lt _ (by decide)⟩
    b := ⟨w.toNat / 2 ^ 12 % 16, Nat.mod_lt _ (by decide)⟩
    c := ⟨w.toNat / 2 ^ 8 % 16, Nat.mod_lt _ (by decide)⟩
    t := ⟨w.toNat / 2 ^ 7 % 2, Nat.mod_lt _ (by decide)⟩
    u := ⟨w.toNat / 2 ^ 6 % 2, Nat.mod_lt _ (by decide)⟩
    rsv := w.toNat % 64 }

/-- Field U read as R101 says: 0 is `fresh`, 1 is `reuse`. -/
def Fields.use (f : Fields) : Use := if f.u = 0 then .fresh else .reuse

/-- The bit of field U (R101). -/
def Use.bit : Use → Nat
  | .fresh => 0
  | .reuse => 1

/-- R105(b): the command, if RSV and every unused field are 0. -/
def Fields.accept (f : Fields) (unused : List Nat) (i : Instr) : Except DecodeError Instr :=
  if f.rsv = 0 ∧ unused.all (fun x => x == 0) then .ok i else .error .unusedField

/-- R105(c): a vector field names `r0`..`r3`. -/
def vectorField (x : Fin 16) : Option VReg := if h : x.val < 4 then some ⟨x.val, h⟩ else none

/-- R105(d): CRT's group is at most 11. -/
def groupField (x : Fin 16) : Option KeyGroup := if h : x.val < 12 then some ⟨x.val, h⟩ else none

/-- The opcode map of R104 with the legality of R105. -/
def decodeFields (f : Fields) : Except DecodeError Instr :=
  match f.op with
  | 0x00 => f.accept [f.d.val, f.a.val, f.b.val, f.c.val, f.t.val, f.u.val] .nop
  | 0x01 => f.accept [f.a.val, f.b.val, f.c.val, f.t.val, f.u.val] (.clr f.d)
  | 0x02 => f.accept [f.a.val, f.b.val, f.c.val, f.t.val, f.u.val] (.setone f.d)
  | 0x03 => f.accept [f.b.val, f.c.val, f.t.val, f.u.val] (.mov f.d f.a)
  | 0x04 => f.accept [f.a.val, f.b.val, f.c.val, f.t.val, f.u.val] (.setu64 f.d)
  | 0x05 => f.accept [f.d.val, f.b.val, f.c.val, f.t.val, f.u.val] (.getu64 f.a)
  | 0x06 => f.accept [f.d.val, f.b.val, f.c.val, f.t.val, f.u.val] (.test f.a)
  | 0x07 => f.accept [f.d.val, f.c.val, f.t.val, f.u.val] (.cmp f.a f.b)
  | 0x08 => f.accept [f.b.val, f.c.val, f.t.val, f.u.val] (.shl f.d f.a)
  | 0x09 => f.accept [f.b.val, f.c.val, f.t.val, f.u.val] (.shr f.d f.a)
  | 0x0A => f.accept [f.b.val, f.c.val, f.t.val, f.u.val] (.addu64 f.d f.a)
  | 0x0B => f.accept [f.b.val, f.c.val, f.t.val, f.u.val] (.subu64 f.d f.a)
  | 0x0C => f.accept [f.a.val, f.b.val, f.c.val, f.t.val, f.u.val] (.rndodd f.d)
  | 0x10 => f.accept [f.c.val, f.t.val, f.u.val] (.add f.d f.a f.b)
  | 0x11 => f.accept [f.c.val, f.t.val, f.u.val] (.sub f.d f.a f.b)
  | 0x12 => f.accept [f.c.val, f.t.val, f.u.val] (.mul f.d f.a f.b)
  | 0x13 => f.accept [f.b.val, f.c.val, f.t.val, f.u.val] (.sqr f.d f.a)
  | 0x18 =>
    if f.d = f.c then .error .sameDestination else
      f.accept [f.t.val, f.u.val] (.div f.d f.a f.b f.c)
  | 0x19 => f.accept [f.b.val, f.c.val, f.t.val, f.u.val] (.sdiv f.d f.a)
  | 0x1A => f.accept [f.d.val, f.b.val, f.c.val, f.t.val, f.u.val] (.rem32 f.a)
  | 0x1B => f.accept [f.d.val, f.b.val, f.c.val, f.t.val, f.u.val] (.rem64 f.a)
  | 0x20 => f.accept [f.c.val, f.t.val, f.u.val] (.gcd f.d f.a f.b)
  | 0x21 => f.accept [f.c.val, f.t.val, f.u.val] (.inv f.d f.a f.b)
  | 0x22 => f.accept [f.b.val, f.c.val, f.t.val, f.u.val] (.invse f.d f.a)
  | 0x23 => f.accept [f.d.val, f.b.val, f.c.val, f.t.val, f.u.val] (.smallfact f.a)
  | 0x24 => f.accept [f.b.val, f.c.val, f.t.val, f.u.val] (.isqrt f.d f.a)
  | 0x28 => f.accept [] (.modexp f.d f.a f.b f.c f.t f.use)
  | 0x29 => f.accept [f.d.val, f.b.val, f.c.val, f.u.val] (.fermat f.a f.t)
  | 0x2A => f.accept [f.d.val, f.b.val, f.c.val, f.u.val] (.fermat1 f.a f.t)
  | 0x30 => f.accept [f.d.val, f.b.val, f.c.val, f.u.val] (.tblbuild f.a f.t)
  | 0x31 => f.accept [f.b.val, f.c.val, f.u.val] (.reduce f.d f.a f.t)
  | 0x38 =>
    match vectorField f.d with
    | some d => f.accept [f.b.val, f.c.val, f.t.val, f.u.val] (.rvfrom d f.a)
    | none => .error .vectorField
  | 0x39 =>
    match vectorField f.d, vectorField f.a, vectorField f.b with
    | some d, some a, some b => f.accept [f.c.val, f.t.val, f.u.val] (.rvadd d a b)
    | _, _, _ => .error .vectorField
  | 0x3A =>
    match vectorField f.d, vectorField f.a, vectorField f.b with
    | some d, some a, some b => f.accept [f.c.val, f.t.val, f.u.val] (.rvsub d a b)
    | _, _, _ => .error .vectorField
  | 0x3B =>
    match vectorField f.d, vectorField f.a, vectorField f.b with
    | some d, some a, some b => f.accept [f.c.val, f.t.val, f.u.val] (.rvmul d a b)
    | _, _, _ => .error .vectorField
  | 0x40 =>
    match groupField f.b with
    | some g => f.accept [f.c.val, f.t.val] (.crt f.d f.a g f.use)
    | none => .error .keyGroup
  | _ => .error .reservedOpcode

/-- The decoder: total on every 32-bit word. -/
def decode (w : Word) : Except DecodeError Instr := decodeFields (fieldsOf w)

/-- Bits 31:24 of a word, its opcode byte (R101, R314). -/
def opcodeByte (w : Word) : Byte := BitVec.ofNat 8 (w.toNat / 2 ^ 24)

/-- A word from its fields, RSV 0: the formula of R122. -/
def pack (op d a b c t u : Nat) : Word :=
  BitVec.ofNat 32 (op * 2 ^ 24 + d * 2 ^ 20 + a * 2 ^ 16 + b * 2 ^ 12 + c * 2 ^ 8 + t * 2 ^ 7 + u * 2 ^ 6)

/-- The opcode of R104. -/
def Instr.opcode : Instr → Nat
  | .nop => 0x00
  | .clr _ => 0x01
  | .setone _ => 0x02
  | .mov _ _ => 0x03
  | .setu64 _ => 0x04
  | .getu64 _ => 0x05
  | .test _ => 0x06
  | .cmp _ _ => 0x07
  | .shl _ _ => 0x08
  | .shr _ _ => 0x09
  | .addu64 _ _ => 0x0A
  | .subu64 _ _ => 0x0B
  | .rndodd _ => 0x0C
  | .add _ _ _ => 0x10
  | .sub _ _ _ => 0x11
  | .mul _ _ _ => 0x12
  | .sqr _ _ => 0x13
  | .div _ _ _ _ => 0x18
  | .sdiv _ _ => 0x19
  | .rem32 _ => 0x1A
  | .rem64 _ => 0x1B
  | .gcd _ _ _ => 0x20
  | .inv _ _ _ => 0x21
  | .invse _ _ => 0x22
  | .smallfact _ => 0x23
  | .isqrt _ _ => 0x24
  | .modexp _ _ _ _ _ _ => 0x28
  | .fermat _ _ => 0x29
  | .fermat1 _ _ => 0x2A
  | .tblbuild _ _ => 0x30
  | .reduce _ _ _ => 0x31
  | .rvfrom _ _ => 0x38
  | .rvadd _ _ _ => 0x39
  | .rvsub _ _ _ => 0x3A
  | .rvmul _ _ _ => 0x3B
  | .crt _ _ _ _ => 0x40

/-- The command word of an instruction (R101, R104). -/
def encode : Instr → Word
  | .nop => pack 0x00 0 0 0 0 0 0
  | .clr d => pack 0x01 d 0 0 0 0 0
  | .setone d => pack 0x02 d 0 0 0 0 0
  | .mov d a => pack 0x03 d a 0 0 0 0
  | .setu64 d => pack 0x04 d 0 0 0 0 0
  | .getu64 a => pack 0x05 0 a 0 0 0 0
  | .test a => pack 0x06 0 a 0 0 0 0
  | .cmp a b => pack 0x07 0 a b 0 0 0
  | .shl d a => pack 0x08 d a 0 0 0 0
  | .shr d a => pack 0x09 d a 0 0 0 0
  | .addu64 d a => pack 0x0A d a 0 0 0 0
  | .subu64 d a => pack 0x0B d a 0 0 0 0
  | .rndodd d => pack 0x0C d 0 0 0 0 0
  | .add d a b => pack 0x10 d a b 0 0 0
  | .sub d a b => pack 0x11 d a b 0 0 0
  | .mul d a b => pack 0x12 d a b 0 0 0
  | .sqr d a => pack 0x13 d a 0 0 0 0
  | .div d a b c => pack 0x18 d a b c 0 0
  | .sdiv d a => pack 0x19 d a 0 0 0 0
  | .rem32 a => pack 0x1A 0 a 0 0 0 0
  | .rem64 a => pack 0x1B 0 a 0 0 0 0
  | .gcd d a b => pack 0x20 d a b 0 0 0
  | .inv d a b => pack 0x21 d a b 0 0 0
  | .invse d a => pack 0x22 d a 0 0 0 0
  | .smallfact a => pack 0x23 0 a 0 0 0 0
  | .isqrt d a => pack 0x24 d a 0 0 0 0
  | .modexp d a b c t u => pack 0x28 d a b c t u.bit
  | .fermat a t => pack 0x29 0 a 0 0 t 0
  | .fermat1 a t => pack 0x2A 0 a 0 0 t 0
  | .tblbuild a t => pack 0x30 0 a 0 0 t 0
  | .reduce d a t => pack 0x31 d a 0 0 t 0
  | .rvfrom d a => pack 0x38 d a 0 0 0 0
  | .rvadd d a b => pack 0x39 d a b 0 0 0
  | .rvsub d a b => pack 0x3A d a b 0 0 0
  | .rvmul d a b => pack 0x3B d a b 0 0 0
  | .crt d a g u => pack 0x40 d a g 0 0 u.bit

/-- A row of spec/opcode_table.json. -/
structure OpcodeRow where
  mnemonic : String
  mask : Word
  bits : Word
  deriving DecidableEq, Repr

/-- The opcode table's rows 1 to 12. -/
def opcodeRowsLow : List OpcodeRow := [
  ⟨"NOP", 0xFFFFFFFF#32, 0x00000000#32⟩,
  ⟨"CLR", 0xFF0FFFFF#32, 0x01000000#32⟩,
  ⟨"SETONE", 0xFF0FFFFF#32, 0x02000000#32⟩,
  ⟨"MOV", 0xFF00FFFF#32, 0x03000000#32⟩,
  ⟨"SETU64", 0xFF0FFFFF#32, 0x04000000#32⟩,
  ⟨"GETU64", 0xFFF0FFFF#32, 0x05000000#32⟩,
  ⟨"TEST", 0xFFF0FFFF#32, 0x06000000#32⟩,
  ⟨"CMP", 0xFFF00FFF#32, 0x07000000#32⟩,
  ⟨"SHL", 0xFF00FFFF#32, 0x08000000#32⟩,
  ⟨"SHR", 0xFF00FFFF#32, 0x09000000#32⟩,
  ⟨"ADDU64", 0xFF00FFFF#32, 0x0A000000#32⟩,
  ⟨"SUBU64", 0xFF00FFFF#32, 0x0B000000#32⟩]

/-- The opcode table's rows 13 to 24. -/
def opcodeRowsMid : List OpcodeRow := [
  ⟨"RNDODD", 0xFF0FFFFF#32, 0x0C000000#32⟩,
  ⟨"ADD", 0xFF000FFF#32, 0x10000000#32⟩,
  ⟨"SUB", 0xFF000FFF#32, 0x11000000#32⟩,
  ⟨"MUL", 0xFF000FFF#32, 0x12000000#32⟩,
  ⟨"SQR", 0xFF00FFFF#32, 0x13000000#32⟩,
  ⟨"DIV", 0xFF0000FF#32, 0x18000000#32⟩,
  ⟨"SDIV", 0xFF00FFFF#32, 0x19000000#32⟩,
  ⟨"REM32", 0xFFF0FFFF#32, 0x1A000000#32⟩,
  ⟨"REM64", 0xFFF0FFFF#32, 0x1B000000#32⟩,
  ⟨"GCD", 0xFF000FFF#32, 0x20000000#32⟩,
  ⟨"INV", 0xFF000FFF#32, 0x21000000#32⟩,
  ⟨"INVSE", 0xFF00FFFF#32, 0x22000000#32⟩]

/-- The opcode table's rows 25 to 36. -/
def opcodeRowsHigh : List OpcodeRow := [
  ⟨"SMALLFACT", 0xFFF0FFFF#32, 0x23000000#32⟩,
  ⟨"ISQRT", 0xFF00FFFF#32, 0x24000000#32⟩,
  ⟨"MODEXP", 0xFF00003F#32, 0x28000000#32⟩,
  ⟨"FERMAT", 0xFFF0FF7F#32, 0x29000000#32⟩,
  ⟨"FERMAT1", 0xFFF0FF7F#32, 0x2A000000#32⟩,
  ⟨"TBLBUILD", 0xFFF0FF7F#32, 0x30000000#32⟩,
  ⟨"REDUCE", 0xFF00FF7F#32, 0x31000000#32⟩,
  ⟨"RVFROM", 0xFF00FFFF#32, 0x38000000#32⟩,
  ⟨"RVADD", 0xFF000FFF#32, 0x39000000#32⟩,
  ⟨"RVSUB", 0xFF000FFF#32, 0x3A000000#32⟩,
  ⟨"RVMUL", 0xFF000FFF#32, 0x3B000000#32⟩,
  ⟨"CRT", 0xFF000FBF#32, 0x40000000#32⟩]

/-- spec/opcode_table.json, row by row in its order. -/
def opcodeTable : List OpcodeRow := opcodeRowsLow ++ opcodeRowsMid ++ opcodeRowsHigh

/-- A word matches a row when its masked bits are the row's. -/
def OpcodeRow.hits (r : OpcodeRow) (w : Word) : Bool := w &&& r.mask == r.bits

/-- The constraints (c), (d) and (e) of R105 on the fields of a word, by opcode. -/
def constraintsHold (f : Fields) : Bool :=
  match f.op with
  | 0x18 => decide (f.d ≠ f.c)
  | 0x38 => decide (f.d.val < 4)
  | 0x39 => decide (f.d.val < 4 ∧ f.a.val < 4 ∧ f.b.val < 4)
  | 0x3A => decide (f.d.val < 4 ∧ f.a.val < 4 ∧ f.b.val < 4)
  | 0x3B => decide (f.d.val < 4 ∧ f.a.val < 4 ∧ f.b.val < 4)
  | 0x40 => decide (f.b.val ≤ 11)
  | _ => true

/-- R105 as the spec states it: (a) and (b) by the table's masks and match values, (c)-(e) by the constraints. -/
def legal (w : Word) : Bool := opcodeTable.any (fun r => r.hits w) && constraintsHold (fieldsOf w)

/-- The instruction the decoder reads from an instruction of at most 32 bits whose bits are `w` (R100: there is one format). -/
def decodeTableWord (nbits w : Nat) : Option Instr :=
  if nbits ≤ 32 then
    match decode (BitVec.ofNat 32 w) with
    | .ok i => some i
    | .error _ => none
  else none

end Sys2Proof
end

