-- ==== Sys2Proof/Machine/State.lean ====
section
/-! DEFINITION. The state of RSACORE as plain data (10_state.md), its two closed types of reasons to stop, and reset. -/

namespace Sys2Proof.Machine

/-- Reasons for the machine to stop with a fault. There is NONE: every fault of the spec (R310) ends a command and
leaves the core ready (R317, R331), so it is a next state, and every host access has an effect or is refused with
HOSTERR (R73, R88), again a next state. Safe. -/
inductive Fault where
  deriving DecidableEq, Repr

/-- Reasons for the machine to give an instruction no meaning. -/
inductive Refusal where
  /-- An instruction without a meaning yet, by its mnemonic. No arm of `exec` raises it. Safe. -/
  | notModelled (mnemonic : String)
  deriving DecidableEq, Repr

/-- The fault codes of R310. They are recorded in FAULT.CODE by the command that ends with one. -/
inductive FaultCode where
  | none
  | illegalCommand
  | divideByZero
  | invalidArgument
  | overflow
  | noInverse
  | internalInconsistency
  | staleTable
  | tableRange
  deriving DecidableEq, Repr

/-- The nine flags of R45, STATUS[24:16] in this order from bit 16. -/
structure Flags where
  z : Bool
  n : Bool
  one : Bool
  f64 : Bool
  eq : Bool
  gt : Bool
  prime : Bool
  found : Bool
  exact : Bool
  deriving DecidableEq, Repr

/-- A reduction-table bank (R36). -/
structure Bank where
  valid : Bool
  modulus : Nat
  k : Nat
  len : Nat
  entries : List Nat
  deriving DecidableEq, Repr

/-- The command being executed (R63): the accepted word, the big registers as they stood when it was accepted (R112,
R316; the whole file, of which the command's operands are a part, log entry 11), and the number of the segment the
next core step runs (R323). -/
structure Job where
  word : Word
  snap : Vector Int 16
  seg : Nat
  deriving DecidableEq, Repr

/-- PHASE (R63). -/
inductive Phase where
  | init
  | idle
  | run (j : Job)
  deriving DecidableEq, Repr

/-- One event of the schedule (R17, R90; log entry 1). Addresses are host bus addresses in bytes, sizes are in bytes. -/
inductive Input where
  /-- the core takes one step -/
  | core
  /-- the host reads `size` bytes at `addr` (R71, R73) -/
  | read (addr size : Nat)
  /-- the host writes `data` as `size` bytes at `addr` (R71, R73) -/
  | write (addr size : Nat) (data : Word)
  /-- RST is asserted for this step (R350) -/
  | rst
  deriving DecidableEq, Repr

/-- The state of one RSACORE instance and of its bus port. A big register is an integer, as R31 allows. -/
structure State where
  /-- CAP, PRIME_COUNT, CORE_BASE (R7): never changed by a step -/
  cfg : Config
  /-- big registers b0..b15 (R31) -/
  b : Vector Int 16
  /-- table banks t0, t1 (R36) -/
  tbl : Vector Bank 2
  /-- residue vectors r0..r3, each a list of its slots (R42) -/
  rv : Vector (List Nat) 4
  /-- scalar operands (R44, R52) -/
  arg0 : Word
  arg1 : Word
  /-- scalar results (R44, R56) -/
  res0 : Word
  res1 : Word
  /-- STATUS[24:16] (R45) -/
  flags : Flags
  /-- CMDCOUNT (R50) -/
  cmdCount : Word
  /-- STATUS[1], [2], [3], [4], [5] (R54) -/
  done : Bool
  err : Bool
  cancelled : Bool
  hostErr : Bool
  cancelPending : Bool
  /-- FAULT.CODE and FAULT.OPC (R55) -/
  faultCode : FaultCode
  faultOpc : Byte
  /-- INTEN.IE (R57) -/
  intEn : Bool
  /-- the window selector and index (R58, R59) -/
  wsel : Word
  widx : Word
  /-- PHASE and, while a command runs, the command (R63) -/
  phase : Phase
  /-- the model's own: entropy words drawn so far (R142; log entry 4) -/
  draws : Nat
  /-- the model's own: the schedule still to come, oldest first (R90; log entry 1) -/
  inputs : List Input
  /-- the read-data lines of the bus port (R71): the answer of the last read (log entry 5) -/
  readData : Word
  deriving DecidableEq, Repr

/-- All nine flags 0 (R64). -/
def Flags.clear : Flags :=
  { z := false, n := false, one := false, f64 := false, eq := false, gt := false, prime := false, found := false, exact := false }

/-- A bank with `VALID = 0` (R37, R64). -/
def Bank.invalid : Bank := { valid := false, modulus := 0, k := 0, len := 0, entries := [] }

/-- Every piece of state at its reset value (R64, R350), for a machine with parameters `c`. The fields that are not the
spec's, `draws`, `inputs` and `readData`, start at 0, empty and 0 (DESIGN CHOICE, log entries 1, 4, 5). -/
def State.resetOf (c : Config) : State :=
  { cfg := c
    b := Vector.replicate 16 0
    tbl := Vector.replicate 2 Bank.invalid
    rv := Vector.replicate 4 (List.replicate c.slots 0)
    arg0 := 0#32
    arg1 := 0#32
    res0 := 0#32
    res1 := 0#32
    flags := Flags.clear
    cmdCount := 0#32
    done := false
    err := false
    cancelled := false
    hostErr := false
    cancelPending := false
    faultCode := .none
    faultOpc := 0#8
    intEn := false
    wsel := 0#32
    widx := 0#32
    phase := .init
    draws := 0
    inputs := []
    readData := 0#32 }

/-- The machine right after reset (R64, R350, R352): PHASE = INIT, STATUS = 0x00000041. -/
def State.reset : State := State.resetOf Config.standard

end Sys2Proof.Machine
end

