-- ==== Sys2Proof/Machine/Flags.lean ====
section
/-! DEFINITION. Every flag computation of the spec (R45, R46, R137, R203, R204, R235, R238). Each names the flags it
writes; the others keep their values. -/

namespace Sys2Proof.Machine

/-- The group Z, N, ONE, F64 from the primary result `v` (R46). -/
def Flags.primary (f : Flags) (v : Int) : Flags :=
  { f with z := decide (v = 0), n := decide (v < 0), one := decide (v = 1), f64 := decide (v.natAbs < 2 ^ 64) }

/-- CMP's flags (R137). -/
def Flags.compare (f : Flags) (x y : Int) : Flags := { f with eq := decide (x = y), gt := decide (y < x) }

/-- The Fermat verdict (R235, R238). -/
def Flags.verdict (f : Flags) (p : Bool) : Flags := { f with prime := p }

/-- SMALLFACT's flag (R203). -/
def Flags.factor (f : Flags) (p : Bool) : Flags := { f with found := p }

/-- ISQRT's own flag (R204). -/
def Flags.rootExact (f : Flags) (p : Bool) : Flags := { f with exact := p }

/-- 1 for a set bit, 0 for a clear one. -/
def bit (p : Bool) : Nat := if p then 1 else 0

/-- The flags as STATUS[24:16] (R45), bit 16 first. -/
def Flags.field (f : Flags) : Nat :=
  bit f.z + 2 * bit f.n + 4 * bit f.one + 8 * bit f.f64 + 16 * bit f.eq + 32 * bit f.gt + 64 * bit f.prime
    + 128 * bit f.found + 256 * bit f.exact

end Sys2Proof.Machine
end

