-- ==== Sys2Proof/Machine/Numbers.lean ====
section
/-! DEFINITION. The number notation of R10 and the number-theoretic computations the commands share: digits of base 2^32,
digit and bit counts, the extended Euclid loop of R201, the scan of R202 and the integer square root of R204. -/

namespace Sys2Proof.Machine

/-- `B = 2^32` (R9). -/
def radix : Nat := 2 ^ 32

/-- `bitlen(e)` (R10): the number of bits, 0 for 0. -/
def bitlen (e : Nat) : Nat := if e = 0 then 0 else Nat.log2 e + 1

/-- `ndig(x)` (R10): the number of base-2^32 digits, 1 for 0; one more than the index of R31. -/
def ndig (x : Nat) : Nat := if x = 0 then 1 else Nat.log2 x / 32 + 1

/-- `digit(x, i)` (R10). -/
def digit (x i : Nat) : Nat := x / radix ^ i % radix

/-- The magnitude `x` with digit `i` replaced by `w` (R32, R80). -/
def withDigit (x i w : Nat) : Nat := x - digit x i * radix ^ i + w * radix ^ i

/-- The number whose digits, lowest first, are the words `ws` (R142, R34). -/
def ofWords : List Word → Nat
  | [] => 0
  | w :: ws => w.toNat + radix * ofWords ws

/-- `LEN(k) = 2·k + 10` (R7, R251). -/
def tableLen (k : Nat) : Nat := 2 * k + 10

/-- The loop of R201 from `(r0, r1, t0, t1)`: `none` when the remainder reaches 0, the coefficient `t1` when it reaches
1. Each turn makes `r1` smaller, so `fuel > r1` never runs out (log entry 16). -/
def euclidInv : (fuel : Nat) → (r0 r1 : Nat) → (t0 t1 : Int) → Option Int
  | 0, _, _, _, _ => none
  | fuel + 1, r0, r1, t0, t1 =>
    if r1 = 0 then none
    else if r1 = 1 then some t1
    else euclidInv fuel r1 (r0 % r1) t1 (t0 - ((r0 / r1 : Nat) : Int) * t1)

/-- The scan of R202: the first `y` of `n` candidates from `y0` up with `(y·mf + 1) mod f = 0`. -/
def inverseScan (mf f : Nat) : (n y0 : Nat) → Option Nat
  | 0, _ => none
  | n + 1, y0 => if (y0 * mf + 1) % f = 0 then some y0 else inverseScan mf f n (y0 + 1)

/-- Bits `n-1` down to 0 of a root, each kept when the square stays `≤ a` (R204, R205 "bit-by-bit binary search"). -/
def rootBits (a : Nat) : (n s : Nat) → Nat
  | 0, s => s
  | n + 1, s => if (s + 2 ^ n) * (s + 2 ^ n) ≤ a then rootBits a n (s + 2 ^ n) else rootBits a n s

/-- `⌊√a⌋` (R204). -/
def isqrt (a : Nat) : Nat := rootBits a (bitlen a / 2 + 1) 0

end Sys2Proof.Machine
end

