-- ==== Sys2Proof/Machine/Ops.lean ====
section
/-! DEFINITION. The named operations over the state: register writes, the life cycle of a command (accept R316, segments
R323, the three endings of R317, cancellation polls R322), taking a fault (R314, R317(b)) as one shared operation, reset
(R350, R351) and the end of initialisation (R352). There is no return from a fault (R332): the fault's own end leaves the
core idle. -/

namespace Sys2Proof.Machine

/-- What a step, a meaning or a part of one answers. -/
abbrev Result := Host.Outcome State Fault Refusal

/-! ### Registers -/

/-- `b[r] <- v` (R32: an integer is its own canonical form). -/
def State.setBig (s : State) (r : BReg) (v : Int) : State := { s with b := s.b.set r.val v r.isLt }

/-- Replace bank `t` at once (R253). -/
def State.setBank (s : State) (t : BankNo) (bk : Bank) : State := { s with tbl := s.tbl.set t.val bk t.isLt }

/-- Write every slot of a residue vector (R43). -/
def State.setVec (s : State) (r : VReg) (slots : List Nat) : State := { s with rv := s.rv.set r.val slots r.isLt }

/-- Write RES0 and RES1 (R44, R56). -/
def State.setRes (s : State) (lo hi : Nat) : State := { s with res0 := BitVec.ofNat 32 lo, res1 := BitVec.ofNat 32 hi }

/-- Write the flags. -/
def State.setFlags (s : State) (f : Flags) : State := { s with flags := f }

/-- Write a big result and the flags of it as the primary result (R46). -/
def State.putBig (s : State) (r : BReg) (v : Int) : State := (s.setBig r v).setFlags (s.flags.primary v)

/-- A value that fits a big register: `|v| < B^CAP` (R13, R31). -/
def State.fits (s : State) (v : Int) : Bool := decide (v.natAbs < radix ^ s.cfg.cap)

/-! ### The life cycle of a command -/

/-- `STATUS.BUSY` (R54, R63). -/
def State.busy (s : State) : Bool :=
  match s.phase with
  | .init => true
  | .idle => false
  | .run _ => true

/-- `STATUS.INIT` (R54, R63). -/
def State.initialising (s : State) : Bool :=
  match s.phase with
  | .init => true
  | .idle => false
  | .run _ => false

/-- Accept a command word (R316). The operands are read here: the snapshot is the big-register file (R63, R112). -/
def State.accept (s : State) (w : Word) : State :=
  { s with
    cmdCount := s.cmdCount + 1#32
    done := false
    err := false
    cancelled := false
    faultCode := .none
    faultOpc := 0#8
    phase := .run { word := w, snap := s.b, seg := 0 } }

/-- End with success (R317(a)); the command's writes have been made. -/
def State.succeed (s : State) : State :=
  { s with phase := .idle, done := true, err := false, cancelled := false, faultCode := .none, faultOpc := 0#8 }

/-- TAKE A FAULT: end the command with `code` (R314, R317(b), R315: nothing else changes). -/
def State.failWith (s : State) (opc : Byte) (code : FaultCode) : State :=
  { s with phase := .idle, done := true, err := true, cancelled := false, faultCode := code, faultOpc := opc }

/-- End by cancellation; the request is consumed (R317(c)). -/
def State.cancelEnd (s : State) : State :=
  { s with
    phase := .idle
    done := true
    err := false
    cancelled := true
    cancelPending := false
    faultCode := .none
    faultOpc := 0#8 }

/-- The segment the next core step of the command runs (R323); 0 when no command runs (log entry 12). -/
def State.segment (s : State) : Nat :=
  match s.phase with
  | .run j => j.seg
  | .init => 0
  | .idle => 0

/-- The command stops at safe point number `n` (R323): its next step is segment `n`. `w` is the command's word; it is
used only in a state in which no command runs (log entry 12). -/
def State.stopAt (s : State) (w : Word) (n : Nat) : State :=
  { s with phase :=
      match s.phase with
      | .run j => .run { j with seg := n }
      | .init => .run { word := w, snap := s.b, seg := n }
      | .idle => .run { word := w, snap := s.b, seg := n } }

/-- `safepoint()` (R322): a pending cancellation ends the command, otherwise it goes on. -/
def State.poll (s : State) (k : Result) : Result := if s.cancelPending then .next s.cancelEnd else k

/-- The first check that holds names the fault (R312, R313). -/
def firstFault : List (Bool × FaultCode) → Option FaultCode
  | [] => none
  | (holds, code) :: rest => if holds then some code else firstFault rest

/-- The check phase (R312): the first check that holds ends the command with its fault, otherwise `k`. -/
def State.guarded (s : State) (opc : Byte) (checks : List (Bool × FaultCode)) (k : Result) : Result :=
  match firstFault checks with
  | some code => .next (s.failWith opc code)
  | none => k

/-- End with the big result `v` in `b[r]`, or with OVERFLOW where it does not fit (R13, R312). -/
def State.concludeBig (s : State) (opc : Byte) (r : BReg) (v : Int) : Result :=
  if s.fits v then .next (s.putBig r v).succeed else .next (s.failWith opc .overflow)

/-! ### Reset and initialisation -/

/-- Hardware and soft reset (R350, R351): every piece of the spec's state takes its reset value and the machine keeps
its parameters. The schedule and the read-data lines are not the core's, and the entropy source is not rewound
(log entries 1, 4, 5). -/
def State.applyReset (s : State) : State :=
  { State.resetOf s.cfg with draws := s.draws, inputs := s.inputs, readData := s.readData }

/-- The end of initialisation (R352). -/
def State.endInit (s : State) : State := { s with phase := .idle }

/-- The core's step on a word that is not legal (R105, R314): ILLEGAL_COMMAND, with bits 31:24 of the word. -/
def State.illegalEnd (s : State) (w : Word) : State := s.failWith (opcodeByte w) .illegalCommand

end Sys2Proof.Machine
end

