-- ==== Sys2Proof/Machine/Operands.lean ====
section
/-! DEFINITION. Every operand form (R101, R102, R112): big registers through the snapshot taken at accept, the scalar
operands ARG0 and arg64, residue vectors, banks, and CRT's key group. -/

namespace Sys2Proof.Machine

/-- The big-register operand `r` of the running command: its value when the command was accepted (R63, R112). When no
command runs it is the register itself (log entry 12). -/
def State.opBig (s : State) (r : BReg) : Int :=
  match s.phase with
  | .run j => j.snap[r]
  | .init => s.b[r]
  | .idle => s.b[r]

/-- ARG0 as an unsigned 32-bit operand (R102). -/
def State.arg32 (s : State) : Nat := s.arg0.toNat

/-- `arg64 = ARG1·2^32 + ARG0` (R102). -/
def State.arg64 (s : State) : Nat := s.arg1.toNat * 2 ^ 32 + s.arg0.toNat

/-- A residue-vector operand (R101). -/
def State.opVec (s : State) (r : VReg) : List Nat := s.rv[r]

/-- The bank field T selects (R101, R102). -/
def State.bank (s : State) (t : BankNo) : Bank := s.tbl[t]

/-- Register `b[g + j]` of CRT's key group (R102, R290). -/
def groupReg (g : KeyGroup) (j : Fin 5) : BReg := ⟨g.val + j.val, by omega⟩

end Sys2Proof.Machine
end

