-- ==== Sys2Proof/Machine/PrimeRom.lean ====
section
/-! DEFINITION. The prime ROM (R40, R41): entry 0 is 2 and entry `i` the `(i+1)`-th prime. Its contents are computed from
that definition by trial division, as R8 says, and never change. -/

namespace Sys2Proof.Machine

/-- Some divisor `e` of `n` with `d ≤ e` and `e·e ≤ n`, looked for in at most `fuel` places. -/
def hasDivisorFrom (n : Nat) : (fuel d : Nat) → Bool
  | 0, _ => false
  | fuel + 1, d => if n < d * d then false else if n % d = 0 then true else hasDivisorFrom n fuel (d + 1)

/-- `n ≥ 2` is prime: no divisor from 2 up to its square root. -/
def isPrimeNumber (n : Nat) : Bool := !hasDivisorFrom n n 2

/-- The first prime from `n` up, looked for in at most `fuel` places; `fuel = n` is enough, since there is a prime
between `n` and `2n`. -/
def primeAtLeast : (fuel n : Nat) → Nat
  | 0, n => n
  | fuel + 1, n => if isPrimeNumber n then n else primeAtLeast fuel (n + 1)

/-- The first `count` primes from `n ≥ 2` up, in increasing order. -/
def primesFrom : (count n : Nat) → List Nat
  | 0, _ => []
  | count + 1, n => primeAtLeast n n :: primesFrom count (primeAtLeast n n + 1)

/-- The ROM of R8's length, evaluated once. -/
def standardRom : List Nat := primesFrom 16384 2

end Sys2Proof.Machine

namespace Sys2Proof

/-- The prime ROM (R40): the first `PRIME_COUNT` primes. -/
def Config.rom (c : Config) : List Nat :=
  if c.primeCount = 16384 then Machine.standardRom else Machine.primesFrom c.primeCount 2

/-- `prime[i]` (R40). -/
def Config.primeAt (c : Config) (i : Nat) : Nat := c.rom.getD i 0

/-- The primes of the slots of a residue vector, in slot order (R42). -/
def Config.slotPrimes (c : Config) : List Nat := c.rom.take c.slots

end Sys2Proof
end

