-- ==== Sys2Proof/Machine/Arith.lean ====
section
/-! DEFINITION. The arithmetic and number-theory commands of 42_arith.md: ADD, SUB, MUL, SQR, GCD, INV, INVSE, SMALLFACT,
ISQRT. -/

namespace Sys2Proof.Machine

/-- ADD (R190). -/
def execAdd (d a b : BReg) (s : State) : Result := s.concludeBig 0x10#8 d (s.opBig a + s.opBig b)

/-- SUB (R191). -/
def execSub (d a b : BReg) (s : State) : Result := s.concludeBig 0x11#8 d (s.opBig a - s.opBig b)

/-- MUL (R192). -/
def execMul (d a b : BReg) (s : State) : Result := s.concludeBig 0x12#8 d (s.opBig a * s.opBig b)

/-- SQR (R193). -/
def execSqr (d a : BReg) (s : State) : Result := s.concludeBig 0x13#8 d (s.opBig a * s.opBig a)

/-- The checks of GCD (R200). -/
def gcdChecks (x y : Int) : List (Bool × FaultCode) :=
  [(decide (x = 0 ∨ y = 0), .invalidArgument), (decide (x < 0 ∨ y < 0), .invalidArgument)]

/-- GCD (R200). -/
def execGcd (d a b : BReg) (s : State) : Result :=
  s.guarded 0x20#8 (gcdChecks (s.opBig a) (s.opBig b))
    (.next (s.putBig d (Nat.gcd (s.opBig a).toNat (s.opBig b).toNat : Int)).succeed)

/-- The checks of INV (R201). -/
def invChecks (x m : Int) : List (Bool × FaultCode) :=
  [(decide (x = 0 ∨ m = 0), .invalidArgument), (decide (x < 0 ∨ m < 0), .invalidArgument),
   (decide (m = 1), .invalidArgument)]

/-- The coefficient of R201's loop brought into `[0, m)` by one addition. -/
def normalised (t m : Int) : Int := if t < 0 then t + m else t

/-- INV's loop on operands `x`, `m` (R201): the coefficient at its exit, or `none`. -/
def inverseCoefficient (x m : Nat) : Option Int := euclidInv (x + 1) m x 0 1

/-- INV (R201): NO_INVERSE when the loop finds none, INTERNAL_INCONSISTENCY when the postcondition fails. -/
def execInv (d a b : BReg) (s : State) : Result :=
  s.guarded 0x21#8 (invChecks (s.opBig a) (s.opBig b))
    (match inverseCoefficient (s.opBig a).toNat (s.opBig b).toNat with
    | none => .next (s.failWith 0x21#8 .noInverse)
    | some t =>
      if normalised t (s.opBig b) * s.opBig a % s.opBig b ≠ 1 then .next (s.failWith 0x21#8 .internalInconsistency)
      else .next (s.putBig d (normalised t (s.opBig b))).succeed)

/-- The checks of INVSE (R202). -/
def invseChecks (m : Int) (f : Nat) : List (Bool × FaultCode) :=
  [(decide (m ≤ 1), .invalidArgument), (decide (f < 2 ∨ 1000000 ≤ f), .invalidArgument)]

/-- INVSE (R202). -/
def execInvse (d a : BReg) (s : State) : Result :=
  s.guarded 0x22#8 (invseChecks (s.opBig a) s.arg32)
    (match inverseScan ((s.opBig a).toNat % s.arg32) s.arg32 (s.arg32 - 1) 1 with
    | none => .next (s.failWith 0x22#8 .noInverse)
    | some y => .next (s.putBig d (((y : Int) * s.opBig a + 1) / s.arg32)).succeed)

/-- The factor SMALLFACT finds (R203): 2, or the first ROM prime that divides `x`, or 0. -/
def smallFactor (rom : List Nat) (x : Nat) : Nat :=
  if x % 2 = 0 then 2 else (rom.find? (fun p => decide (x % p = 0))).getD 0

/-- SMALLFACT (R203). -/
def execSmallfact (a : BReg) (s : State) : Result :=
  s.guarded 0x23#8 [(decide (s.opBig a < 0), .invalidArgument)]
    (.next ((s.setRes (smallFactor s.cfg.rom (s.opBig a).toNat) 0).setFlags
      (s.flags.factor (decide (smallFactor s.cfg.rom (s.opBig a).toNat ≠ 0)))).succeed)

/-- ISQRT (R204). -/
def execIsqrt (d a : BReg) (s : State) : Result :=
  s.guarded 0x24#8 [(decide (s.opBig a < 0), .invalidArgument)]
    (.next ((s.setBig d (isqrt (s.opBig a).toNat : Int)).setFlags
      ((s.flags.primary (isqrt (s.opBig a).toNat : Int)).rootExact
        (decide ((isqrt (s.opBig a).toNat * isqrt (s.opBig a).toNat : Int) = s.opBig a)))).succeed)

end Sys2Proof.Machine
end

