-- ==== Sys2Proof/Machine/Reducer.lean ====
section
/-! DEFINITION. The reduction-table builder and reducer of 44_reducer.md: TBLBUILD and REDUCE, and the one build function
(R253) and the one reduce function (R252) that MODEXP, FERMAT, FERMAT1 and CRT use as well. -/

namespace Sys2Proof.Machine

/-- `build(m)` (R253): `entry[i] = 2^(32·i) mod m` for `i < LEN`. -/
def Bank.build (m : Nat) : Bank :=
  { valid := true
    modulus := m
    k := ndig m
    len := tableLen (ndig m)
    entries := (List.range (tableLen (ndig m))).map (fun i => radix ^ i % m) }

/-- A table for `m` would need more than CAP entries (R251). -/
def State.tableTooLong (s : State) (m : Nat) : Bool := decide (s.cfg.cap < tableLen (ndig m))

/-- The scaled digits of R252 at positions `i`, `i+1`, ..., `n` of them, added to `y`. -/
def foldDigits (entries : List Nat) (v : Nat) : (n i y : Nat) → Nat
  | 0, _, y => y
  | n + 1, i, y => foldDigits entries v n (i + 1) (y + digit v i * entries.getD i 0)

/-- `loosereduce(t, V)` (R252). -/
def Bank.looseReduce (bk : Bank) (v : Nat) : Nat :=
  if ndig v < bk.k then v
  else foldDigits bk.entries v (ndig v - (bk.k - 1)) (bk.k - 1) (v % radix ^ (bk.k - 1))

/-- The checks of TBLBUILD (R250). -/
def State.buildChecks (s : State) (m : Int) : List (Bool × FaultCode) :=
  [(decide (m = 0), .divideByZero), (decide (m < 0), .invalidArgument), (s.tableTooLong m.toNat, .overflow)]

/-- TBLBUILD (R250). -/
def execTblbuild (a : BReg) (t : BankNo) (s : State) : Result :=
  s.guarded 0x30#8 (s.buildChecks (s.opBig a)) (.next (s.setBank t (Bank.build (s.opBig a).toNat)).succeed)

/-- The checks of REDUCE (R252). -/
def reduceChecks (bk : Bank) (v : Int) : List (Bool × FaultCode) :=
  [(decide (v < 0), .invalidArgument), (!bk.valid, .staleTable), (decide (bk.len < ndig v.toNat), .tableRange)]

/-- REDUCE (R252). -/
def execReduce (d a : BReg) (t : BankNo) (s : State) : Result :=
  s.guarded 0x31#8 (reduceChecks (s.bank t) (s.opBig a))
    (.next (s.putBig d ((s.bank t).looseReduce (s.opBig a).toNat : Int)).succeed)

end Sys2Proof.Machine
end

