-- ==== Sys2Proof/Machine/ModExp.lean ====
section
/-! DEFINITION. Modular exponentiation and the Fermat sequencer of 43_modexp.md: MODEXP, FERMAT, FERMAT1, in segments
between their safe points (R322, R323). -/

namespace Sys2Proof.Machine

/-- The exponent loop of R230: `n` bits of `e`, lowest first. -/
def powerLoop (bk : Bank) : (n e acc base : Nat) → Nat
  | 0, _, acc, _ => acc
  | n + 1, e, acc, base =>
    powerLoop bk n (e / 2) (if e % 2 = 1 then bk.looseReduce (acc * base) else acc) (bk.looseReduce (base * base))

/-- `modexp_t(v, e, m)`: R230 from "if e = 0" to "y = acc mod m", with bank `bk`. -/
def Bank.power (bk : Bank) (v e m : Nat) : Nat :=
  if e = 0 then 1 else powerLoop bk (bitlen e) e 1 (v % m) % m

/-- The bank does not hold the table of `m` (R311). -/
def Bank.staleFor (bk : Bank) (m : Int) : Bool := !bk.valid || decide ((bk.modulus : Int) ≠ m)

/-- The checks of MODEXP (R230). -/
def State.modexpChecks (s : State) (v e m : Int) (t : BankNo) (u : Use) : List (Bool × FaultCode) :=
  [(decide (m = 0), .divideByZero),
   (decide (v < 0 ∨ e < 0 ∨ m < 0), .invalidArgument),
   (decide (u = .reuse) && (s.bank t).staleFor m, .staleTable),
   (decide (u = .fresh) && s.tableTooLong m.toNat, .overflow)]

/-- MODEXP (R230). Segment 0: the checks; 1: from SP_pre; 2: from SP_post. -/
def execModexp (d a b c : BReg) (t : BankNo) (u : Use) (s : State) : Result :=
  match s.segment with
  | 0 =>
    s.guarded 0x28#8 (s.modexpChecks (s.opBig a) (s.opBig b) (s.opBig c) t u)
      (.next (s.stopAt (encode (.modexp d a b c t u)) 1))
  | 1 =>
    s.poll (.next
      ((match u with
        | .fresh => s.setBank t (Bank.build (s.opBig c).toNat)
        | .reuse => s).stopAt (encode (.modexp d a b c t u)) 2))
  | _ + 2 =>
    s.poll (.next
      (s.putBig d ((s.bank t).power (s.opBig a).toNat (s.opBig b).toNat (s.opBig c).toNat : Int)).succeed)

/-- The verdict of a Fermat test: PRIME when there is no witness, and the witness (0 for none) in RES (R235, R238). -/
def State.putVerdict (s : State) (isPrime : Bool) (witness : Nat) : State :=
  (s.setRes witness 0).setFlags (s.flags.verdict isPrime)

/-- The base of round `j` (R236). -/
def fermatBase (c : Config) (j : Nat) : Nat := c.primeAt (c.primeCount - 1 - j)

/-- The checks of FERMAT (R235). -/
def State.fermatChecks (s : State) (c : Int) (n : Nat) : List (Bool × FaultCode) :=
  [(decide (c < 2), .invalidArgument),
   (decide (s.cfg.primeCount < n), .invalidArgument),
   (s.tableTooLong c.toNat, .overflow)]

/-- The residue of round `j`: `modexp_t(base, c - 1, c)` (R235). -/
def State.fermatResidue (s : State) (t : BankNo) (c : Int) (base : Nat) : Nat :=
  (s.bank t).power base (c - 1).toNat c.toNat

/-- FERMAT (R235). Segment 0: the checks; 1: from SP_start; `2 + 2·j`: from the safe point before round `j`;
`3 + 2·j`: from the one after it. The residue of a round is scratch (R35): it is computed in the step that uses it
(log entry 10). DESIGN CHOICE (log entry 27): R235 contradicts itself for some even `c > 2`; the pseudocode is followed, by
which 14 passes the base 180503, and not the corner case, by which every even `c > 2` fails on the first base. -/
def execFermat (a : BReg) (t : BankNo) (s : State) : Result :=
  match s.segment with
  | 0 =>
    s.guarded 0x29#8 (s.fermatChecks (s.opBig a) s.arg32) (.next (s.stopAt (encode (.fermat a t)) 1))
  | 1 =>
    s.poll (.next
      (if s.arg32 = 0 then ((s.setBank t (Bank.build (s.opBig a).toNat)).putVerdict true 0).succeed
       else (s.setBank t (Bank.build (s.opBig a).toNat)).stopAt (encode (.fermat a t)) 2))
  | k + 2 =>
    if k % 2 = 0 then s.poll (.next (s.stopAt (encode (.fermat a t)) (k + 3)))
    else s.poll (.next
      (if s.fermatResidue t (s.opBig a) (fermatBase s.cfg (k / 2)) ≠ 1 then
        (s.putVerdict false (fermatBase s.cfg (k / 2))).succeed
       else if k / 2 + 1 < s.arg32 then s.stopAt (encode (.fermat a t)) (k + 3)
       else (s.putVerdict true 0).succeed))

/-- The checks of FERMAT1 (R238). -/
def State.fermat1Checks (s : State) (c : Int) : List (Bool × FaultCode) :=
  [(decide (c < 2), .invalidArgument), (s.tableTooLong c.toNat, .overflow)]

/-- FERMAT1 (R238). Segment 0: the checks; 1: from SP_start; 2: from the safe point before the exponentiation; 3: from
the one after it. -/
def execFermat1 (a : BReg) (t : BankNo) (s : State) : Result :=
  match s.segment with
  | 0 => s.guarded 0x2A#8 (s.fermat1Checks (s.opBig a)) (.next (s.stopAt (encode (.fermat1 a t)) 1))
  | 1 => s.poll (.next ((s.setBank t (Bank.build (s.opBig a).toNat)).stopAt (encode (.fermat1 a t)) 2))
  | 2 => s.poll (.next (s.stopAt (encode (.fermat1 a t)) 3))
  | _ + 3 =>
    s.poll (.next
      (if s.fermatResidue t (s.opBig a) s.arg32 = 1 then (s.putVerdict true 0).succeed
       else (s.putVerdict false s.arg32).succeed))

end Sys2Proof.Machine
end

