-- ==== Sys2Proof/Machine/Crt.lean ====
section
/-! DEFINITION. The CRT (Garner) decryption controller of 46_crt.md: CRT, in segments between SP0, SP1 and SP2. -/

namespace Sys2Proof.Machine

/-- The operands of CRT (R290): the ciphertext and the five registers of the key group. -/
structure CrtKey where
  c : Int
  p : Int
  q : Int
  dP : Int
  dQ : Int
  qInv : Int
  deriving DecidableEq, Repr

/-- The operands read from `b[a]` and the group `g` (R102, R290). -/
def State.crtKey (s : State) (a : BReg) (g : KeyGroup) : CrtKey :=
  { c := s.opBig a
    p := s.opBig (groupReg g 0)
    q := s.opBig (groupReg g 1)
    dP := s.opBig (groupReg g 2)
    dQ := s.opBig (groupReg g 3)
    qInv := s.opBig (groupReg g 4) }

/-- The checks of CRT (R290). -/
def State.crtChecks (s : State) (x : CrtKey) (u : Use) : List (Bool × FaultCode) :=
  [(decide (x.p = 0 ∨ x.q = 0), .divideByZero),
   (decide (x.c < 0 ∨ x.p < 0 ∨ x.q < 0 ∨ x.dP < 0 ∨ x.dQ < 0 ∨ x.qInv < 0), .invalidArgument),
   (decide (u = .reuse) && ((s.bank 0).staleFor x.p || (s.bank 1).staleFor x.q), .staleTable),
   (decide (u = .fresh) && (s.tableTooLong x.p.toNat || s.tableTooLong x.q.toNat), .overflow)]

/-- The Garner step (R290, R291): `h = (qInv·(m1 - m2)) mod P`, floored, and `m = m2 + h·Q`. -/
def garner (x : CrtKey) (m1 m2 : Int) : Int := m2 + x.qInv * (m1 - m2) % x.p * x.q

/-- `m1`, `m2` and the Garner step (R290), with bank t0 for P and t1 for Q. -/
def State.crtResult (s : State) (x : CrtKey) : Int :=
  garner x ((s.bank 0).power x.c.toNat x.dP.toNat x.p.toNat : Int) ((s.bank 1).power x.c.toNat x.dQ.toNat x.q.toNat : Int)

/-- CRT (R290). Segment 0: the checks; 1: from SP0; 2: from SP1; 3: from SP2. The intermediate `m1` and `m2` are scratch
(R35) and are computed in the step that uses them (log entry 10). -/
def execCrt (d a : BReg) (g : KeyGroup) (u : Use) (s : State) : Result :=
  match s.segment with
  | 0 => s.guarded 0x40#8 (s.crtChecks (s.crtKey a g) u) (.next (s.stopAt (encode (.crt d a g u)) 1))
  | 1 =>
    s.poll (.next
      ((match u with
        | .fresh => (s.setBank 0 (Bank.build (s.crtKey a g).p.toNat)).setBank 1 (Bank.build (s.crtKey a g).q.toNat)
        | .reuse => s).stopAt (encode (.crt d a g u)) 2))
  | 2 => s.poll (.next (s.stopAt (encode (.crt d a g u)) 3))
  | _ + 3 => s.poll (.next (s.putBig d (s.crtResult (s.crtKey a g))).succeed)

end Sys2Proof.Machine
end

