-- ==== Sys2Proof/Machine/Divide.lean ====
section
/-! DEFINITION. The division commands of 41_division.md: DIV, SDIV, REM32, REM64. Their results are the exact quotient and
remainder (R177); the divider's datapath is modelled in Machine/Datapath.lean. The primary result is the remainder (D17). -/

namespace Sys2Proof.Machine

/-- The checks of R160-R163, in their order. -/
def divisionChecks (x d : Int) : List (Bool × FaultCode) :=
  [(decide (d = 0), .divideByZero), (decide (x < 0 ∨ d < 0), .invalidArgument)]

/-- DIV (R160): quotient to `d`, remainder to `c`. -/
def execDiv (d a b c : BReg) (s : State) : Result :=
  s.guarded 0x18#8 (divisionChecks (s.opBig a) (s.opBig b))
    (.next (((s.setBig d (s.opBig a / s.opBig b)).setBig c (s.opBig a % s.opBig b)).setFlags
      (s.flags.primary (s.opBig a % s.opBig b))).succeed)

/-- Write a 64-bit remainder to RES and its flags (R161-R163). -/
def State.putRemainder (s : State) (r : Int) : State :=
  (s.setRes (r.toNat % 2 ^ 32) (r.toNat / 2 ^ 32)).setFlags (s.flags.primary r)

/-- SDIV (R161). -/
def execSdiv (d a : BReg) (s : State) : Result :=
  s.guarded 0x19#8 (divisionChecks (s.opBig a) (s.arg32 : Int))
    (.next ((s.setBig d (s.opBig a / s.arg32)).putRemainder (s.opBig a % s.arg32)).succeed)

/-- REM32 (R162). -/
def execRem32 (a : BReg) (s : State) : Result :=
  s.guarded 0x1A#8 (divisionChecks (s.opBig a) (s.arg32 : Int))
    (.next (s.putRemainder (s.opBig a % s.arg32)).succeed)

/-- REM64 (R163). -/
def execRem64 (a : BReg) (s : State) : Result :=
  s.guarded 0x1B#8 (divisionChecks (s.opBig a) (s.arg64 : Int))
    (.next (s.putRemainder (s.opBig a % s.arg64)).succeed)

end Sys2Proof.Machine
end

