-- ==== Sys2Proof/Machine/Register.lean ====
section
/-! DEFINITION. The big-integer register commands of 40_bigint.md: NOP, CLR, SETONE, MOV, SETU64, GETU64, TEST, CMP, SHL,
SHR, ADDU64, SUBU64, RNDODD. -/

namespace Sys2Proof.Machine

/-- NOP (R130): the completion bookkeeping only. -/
def execNop (s : State) : Result := .next s.succeed

/-- CLR (R131). -/
def execClr (d : BReg) (s : State) : Result := .next (s.putBig d 0).succeed

/-- SETONE (R132). -/
def execSetone (d : BReg) (s : State) : Result := .next (s.putBig d 1).succeed

/-- MOV (R133). -/
def execMov (d a : BReg) (s : State) : Result := .next (s.putBig d (s.opBig a)).succeed

/-- SETU64 (R134). -/
def execSetu64 (d : BReg) (s : State) : Result := .next (s.putBig d (s.arg64 : Int)).succeed

/-- GETU64 (R135): the low 64 bits of the magnitude. -/
def execGetu64 (a : BReg) (s : State) : Result :=
  .next ((s.setRes ((s.opBig a).natAbs % 2 ^ 32) ((s.opBig a).natAbs / 2 ^ 32 % 2 ^ 32)).setFlags
    (s.flags.primary (s.opBig a))).succeed

/-- TEST (R136). -/
def execTest (a : BReg) (s : State) : Result := .next (s.setFlags (s.flags.primary (s.opBig a))).succeed

/-- CMP (R137). -/
def execCmp (a b : BReg) (s : State) : Result := .next (s.setFlags (s.flags.compare (s.opBig a) (s.opBig b))).succeed

/-- `v` with its sign and the magnitude `m` (R138, R139: no negative zero). -/
def withSignOf (v : Int) (m : Nat) : Int := if v < 0 then -(m : Int) else (m : Int)

/-- `|v|·2^c ≥ B^CAP` (R138), told by bit lengths because `c` may be any 32-bit count (log entry 17). -/
def State.shiftTooFar (s : State) (v : Int) (c : Nat) : Bool :=
  decide (v ≠ 0 ∧ 32 * s.cfg.cap < bitlen v.natAbs + c)

/-- SHL (R138). -/
def execShl (d a : BReg) (s : State) : Result :=
  if s.shiftTooFar (s.opBig a) s.arg32 then .next (s.failWith 0x08#8 .overflow)
  else if s.opBig a = 0 then .next (s.putBig d 0).succeed
  else .next (s.putBig d (withSignOf (s.opBig a) ((s.opBig a).natAbs * 2 ^ s.arg32))).succeed

/-- SHR (R139): bits of the magnitude are dropped; `m >>> c` is `m div 2^c`. -/
def execShr (d a : BReg) (s : State) : Result :=
  .next (s.putBig d (withSignOf (s.opBig a) ((s.opBig a).natAbs >>> s.arg32))).succeed

/-- ADDU64 (R140). -/
def execAddu64 (d a : BReg) (s : State) : Result := s.concludeBig 0x0A#8 d (s.opBig a + s.arg64)

/-- SUBU64 (R141). -/
def execSubu64 (d a : BReg) (s : State) : Result := s.concludeBig 0x0B#8 d (s.opBig a - s.arg64)

/-- The words of RNDODD after its two forcings (R142): bit 0 of the first, bit 31 of the last. -/
def forceOddFull (ws : List Word) : List Word :=
  (ws.modify 0 (fun w => w ||| 1#32)).modify (ws.length - 1) (fun w => w ||| 0x80000000#32)

/-- The next `n` words of the entropy source (R142, R342). -/
def State.drawWords (s : State) (n : Nat) : List Word := (List.range n).map (fun j => Config.draw32 (s.draws + j))

/-- RNDODD (R142). The words drawn are the free value of the model; a faulting RNDODD draws none. -/
def execRndodd (d : BReg) (s : State) : Result :=
  s.guarded 0x0C#8 [(decide (s.arg32 = 0 ∨ s.cfg.cap < s.arg32), .invalidArgument)]
    (.next ({ s.putBig d (ofWords (forceOddFull (s.drawWords s.arg32)) : Int) with
      draws := s.draws + s.arg32 }).succeed)

end Sys2Proof.Machine
end

