-- ==== Sys2Proof/Machine/Residue.lean ====
section
/-! DEFINITION. The residue-vector unit of 45_residue.md: RVFROM, RVADD, RVSUB, RVMUL, slot by slot. None of them writes a
flag or RES. -/

namespace Sys2Proof.Machine

/-- `x mod prime[s]` in every slot (R270). -/
def residues (primes : List Nat) (x : Nat) : List Nat := primes.map (fun p => x % p)

/-- A vector whose slot `s` is `f prime[s] x[s] y[s]` (R274: no slot depends on another). -/
def slotwise (f : Nat → Nat → Nat → Nat) : (primes xs ys : List Nat) → List Nat
  | p :: ps, x :: xs, y :: ys => f p x y :: slotwise f ps xs ys
  | _, _, _ => []

/-- One slot of RVADD: the conditional reduce of R271. -/
def slotAdd (p x y : Nat) : Nat := if p ≤ x + y then x + y - p else x + y

/-- One slot of RVSUB: the conditional reduce of R272. -/
def slotSub (p x y : Nat) : Nat := if y ≤ x then x - y else x + p - y

/-- One slot of RVMUL (R273). -/
def slotMul (p x y : Nat) : Nat := x * y % p

/-- RVFROM (R270). -/
def execRvfrom (d : VReg) (a : BReg) (s : State) : Result :=
  s.guarded 0x38#8 [(decide (s.opBig a < 0), .invalidArgument)]
    (.next (s.setVec d (residues s.cfg.slotPrimes (s.opBig a).toNat)).succeed)

/-- RVADD (R271). -/
def execRvadd (d a b : VReg) (s : State) : Result :=
  .next (s.setVec d (slotwise slotAdd s.cfg.slotPrimes (s.opVec a) (s.opVec b))).succeed

/-- RVSUB (R272). -/
def execRvsub (d a b : VReg) (s : State) : Result :=
  .next (s.setVec d (slotwise slotSub s.cfg.slotPrimes (s.opVec a) (s.opVec b))).succeed

/-- RVMUL (R273). -/
def execRvmul (d a b : VReg) (s : State) : Result :=
  .next (s.setVec d (slotwise slotMul s.cfg.slotPrimes (s.opVec a) (s.opVec b))).succeed

end Sys2Proof.Machine
end

