-- ==== Sys2Proof/Machine/Dispatch.lean ====
section
/-! DEFINITION. One core step of the running command, by its instruction: each arm is one call of its meaning (R323). -/

namespace Sys2Proof.Machine

def exec (i : Instr) (s : State) : Host.Outcome State Fault Refusal :=
  match i with
  | .nop => Sys2Proof.Machine.execNop s
  | .clr d => Sys2Proof.Machine.execClr d s
  | .setone d => Sys2Proof.Machine.execSetone d s
  | .mov d a => Sys2Proof.Machine.execMov d a s
  | .setu64 d => Sys2Proof.Machine.execSetu64 d s
  | .getu64 a => Sys2Proof.Machine.execGetu64 a s
  | .test a => Sys2Proof.Machine.execTest a s
  | .cmp a b => Sys2Proof.Machine.execCmp a b s
  | .shl d a => Sys2Proof.Machine.execShl d a s
  | .shr d a => Sys2Proof.Machine.execShr d a s
  | .addu64 d a => Sys2Proof.Machine.execAddu64 d a s
  | .subu64 d a => Sys2Proof.Machine.execSubu64 d a s
  | .rndodd d => Sys2Proof.Machine.execRndodd d s
  | .add d a b => Sys2Proof.Machine.execAdd d a b s
  | .sub d a b => Sys2Proof.Machine.execSub d a b s
  | .mul d a b => Sys2Proof.Machine.execMul d a b s
  | .sqr d a => Sys2Proof.Machine.execSqr d a s
  | .div d a b c => Sys2Proof.Machine.execDiv d a b c s
  | .sdiv d a => Sys2Proof.Machine.execSdiv d a s
  | .rem32 a => Sys2Proof.Machine.execRem32 a s
  | .rem64 a => Sys2Proof.Machine.execRem64 a s
  | .gcd d a b => Sys2Proof.Machine.execGcd d a b s
  | .inv d a b => Sys2Proof.Machine.execInv d a b s
  | .invse d a => Sys2Proof.Machine.execInvse d a s
  | .smallfact a => Sys2Proof.Machine.execSmallfact a s
  | .isqrt d a => Sys2Proof.Machine.execIsqrt d a s
  | .modexp d a b c t u => Sys2Proof.Machine.execModexp d a b c t u s
  | .fermat a t => Sys2Proof.Machine.execFermat a t s
  | .fermat1 a t => Sys2Proof.Machine.execFermat1 a t s
  | .tblbuild a t => Sys2Proof.Machine.execTblbuild a t s
  | .reduce d a t => Sys2Proof.Machine.execReduce d a t s
  | .rvfrom d a => Sys2Proof.Machine.execRvfrom d a s
  | .rvadd d a b => Sys2Proof.Machine.execRvadd d a b s
  | .rvsub d a b => Sys2Proof.Machine.execRvsub d a b s
  | .rvmul d a b => Sys2Proof.Machine.execRvmul d a b s
  | .crt d a g u => Sys2Proof.Machine.execCrt d a g u s

end Sys2Proof.Machine
end

