-- ==== Sys2Proof/Machine/CoreStep.lean ====
section
/-! DEFINITION. One step of the core agent (R17, R323, R352). -/

namespace Sys2Proof.Machine

/-- The core's step: end initialisation (R352); nothing while idle (log entry 6); while a command runs, its next segment,
which is ILLEGAL_COMMAND for a word that is not legal (R105). -/
def State.coreStep (s : State) : Result :=
  match s.phase with
  | .init => .next s.endInit
  | .idle => .next s
  | .run j =>
    match decode j.word with
    | .ok i => exec i s
    | .error _ => .next (s.illegalEnd j.word)

end Sys2Proof.Machine
end

