-- ==== Sys2Proof/Machine/HostBus.lean ====
section
/-! DEFINITION. The host's accesses: the register block (R47-R62, R70-R77), the window (R80-R86), refusal while busy (R88),
STATUS and FAULT as words (R54, R55), CTRL (R53), and IRQ (R65). -/

namespace Sys2Proof.Machine

/-- The registers of the block (R47). -/
inductive HostReg where
  | id
  | param0
  | param1
  | cmdcount
  | cmd
  | arg0
  | arg1
  | ctrl
  | status
  | fault
  | res0
  | res1
  | inten
  | wsel
  | widx
  | wdata
  | wmeta
  deriving DecidableEq, Repr

/-- The register at an offset (R47); every other offset is reserved (R62). -/
def regAt (off : Nat) : Option HostReg :=
  match off with
  | 0x000 => some .id
  | 0x004 => some .param0
  | 0x008 => some .param1
  | 0x00C => some .cmdcount
  | 0x010 => some .cmd
  | 0x014 => some .arg0
  | 0x018 => some .arg1
  | 0x01C => some .ctrl
  | 0x020 => some .status
  | 0x024 => some .fault
  | 0x028 => some .res0
  | 0x02C => some .res1
  | 0x030 => some .inten
  | 0x040 => some .wsel
  | 0x044 => some .widx
  | 0x048 => some .wdata
  | 0x04C => some .wmeta
  | _ => none

/-- The reads that act while BUSY = 1 (R88). -/
def HostReg.readsWhileBusy : HostReg → Bool
  | .id => true
  | .param0 => true
  | .param1 => true
  | .cmdcount => true
  | .status => true
  | .fault => true
  | .inten => true
  | .cmd => false
  | .arg0 => false
  | .arg1 => false
  | .ctrl => false
  | .res0 => false
  | .res1 => false
  | .wsel => false
  | .widx => false
  | .wdata => false
  | .wmeta => false

/-- The writes that act while BUSY = 1 (R88). -/
def HostReg.writesWhileBusy : HostReg → Bool
  | .ctrl => true
  | .inten => true
  | .id => false
  | .param0 => false
  | .param1 => false
  | .cmdcount => false
  | .cmd => false
  | .arg0 => false
  | .arg1 => false
  | .status => false
  | .fault => false
  | .res0 => false
  | .res1 => false
  | .wsel => false
  | .widx => false
  | .wdata => false
  | .wmeta => false

/-! ### Words the registers show -/

/-- The number of a fault code (R310). -/
def FaultCode.number : FaultCode → Nat
  | .none => 0x00
  | .illegalCommand => 0x01
  | .divideByZero => 0x02
  | .invalidArgument => 0x03
  | .overflow => 0x04
  | .noInverse => 0x05
  | .internalInconsistency => 0x06
  | .staleTable => 0x07
  | .tableRange => 0x08

/-- STATUS (R54). -/
def State.statusWord (s : State) : Word :=
  BitVec.ofNat 32 (bit s.busy + 2 * bit s.done + 4 * bit s.err + 8 * bit s.cancelled + 16 * bit s.hostErr
    + 32 * bit s.cancelPending + 64 * bit s.initialising + 2 ^ 16 * s.flags.field)

/-- FAULT (R55). -/
def State.faultWord (s : State) : Word := BitVec.ofNat 32 (s.faultCode.number + 2 ^ 8 * s.faultOpc.toNat)

/-- PARAM0 (R49): CAP, NBR = 16, NRV = 4, NTBL = 2. -/
def Config.param0 (c : Config) : Word := BitVec.ofNat 32 (c.cap + 2 ^ 16 * 16 + 2 ^ 24 * 4 + 2 ^ 28 * 2)

/-- PARAM1 (R49): PRIME_COUNT and L. -/
def Config.param1 (c : Config) : Word := BitVec.ofNat 32 (c.primeCount + 2 ^ 16 * c.slots)

/-- The interrupt output (R65, R330). -/
def State.irq (s : State) : Bool := s.intEn && s.done

/-! ### The window -/

/-- `WSEL.SPACE`, bits 2:0 (R58). -/
def State.space (s : State) : Nat := s.wsel.toNat % 8

/-- `WSEL.AINC`, bit 3 (R58). -/
def State.autoInc (s : State) : Bool := decide (s.wsel.toNat / 2 ^ 3 % 2 = 1)

/-- `WSEL.REG`, bits 11:8 (R58). -/
def State.windowReg (s : State) : Fin 16 := ⟨s.wsel.toNat / 2 ^ 8 % 16, Nat.mod_lt _ (by decide)⟩

/-- `WSEL.ENTRY`, bits 31:16 (R58). -/
def State.windowEntry (s : State) : Nat := s.wsel.toNat / 2 ^ 16

/-- WIDX as an element number (R59). -/
def State.windowIndex (s : State) : Nat := s.widx.toNat

/-- A field that selects a bank only for 0 and 1 (R58, R85). -/
def bankField (r : Fin 16) : Option BankNo := if h : r.val < 2 then some ⟨r.val, h⟩ else none

/-- The element a WDATA read returns (R80-R85); `none` where the access is out of range. -/
def State.windowElement (s : State) : Option Nat :=
  match s.space with
  | 0 => if s.windowIndex < s.cfg.cap then some (digit s.b[s.windowReg].natAbs s.windowIndex) else none
  | 1 =>
    match bankField s.windowReg with
    | some t =>
      if (s.bank t).valid = false then some 0
      else if s.windowEntry < (s.bank t).len ∧ s.windowIndex < s.cfg.cap then
        some (digit ((s.bank t).entries.getD s.windowEntry 0) s.windowIndex)
      else none
    | none => none
  | 2 =>
    match bankField s.windowReg with
    | some t => if s.windowIndex < s.cfg.cap then some (digit (s.bank t).modulus s.windowIndex) else none
    | none => none
  | 3 =>
    match vectorField s.windowReg with
    | some r => if s.windowIndex < s.cfg.slots then some ((s.opVec r).getD s.windowIndex 0) else none
    | none => none
  | 4 => if s.windowIndex < s.cfg.primeCount then some (s.cfg.primeAt s.windowIndex) else none
  | _ => none

/-- The metadata a WMETA read returns (R61); `none` where the access is out of range. -/
def State.windowMeta (s : State) : Option Nat :=
  match s.space with
  | 0 => some (2 ^ 31 * bit (decide (s.b[s.windowReg] < 0)) + (ndig s.b[s.windowReg].natAbs - 1))
  | 1 =>
    match bankField s.windowReg with
    | some t => some (2 ^ 31 * bit (s.bank t).valid + (s.bank t).len)
    | none => none
  | 2 =>
    match bankField s.windowReg with
    | some t => some (2 ^ 31 * bit (s.bank t).valid + (s.bank t).k)
    | none => none
  | 3 =>
    match vectorField s.windowReg with
    | some _ => some s.cfg.slots
    | none => none
  | 4 => some s.cfg.primeCount
  | _ => none

/-- `b[REG]` with digit `WIDX` replaced (R32, R80): the sign stays while the magnitude is not zero. -/
def State.windowDigitWritten (s : State) (w : Word) : Int :=
  if s.b[s.windowReg] < 0 then -(withDigit s.b[s.windowReg].natAbs s.windowIndex w.toNat : Int)
  else (withDigit s.b[s.windowReg].natAbs s.windowIndex w.toNat : Int)

/-- `b[REG]` with its sign written (R32, R61): bit 31 set makes it negative, unless it is zero. -/
def State.windowSignWritten (s : State) (w : Word) : Int :=
  if w.getLsbD 31 then -(s.b[s.windowReg].natAbs : Int) else (s.b[s.windowReg].natAbs : Int)

/-- R86: WIDX moves on after a WDATA access when AINC is set. -/
def State.windowAdvance (s : State) : State := if s.autoInc then { s with widx := s.widx + 1#32 } else s

/-! ### Accesses -/

/-- HOSTERR is set (R54); it is sticky. -/
def State.flagHostErr (s : State) : State := { s with hostErr := true }

/-- The read-data lines take the answer of a read (R71). -/
def State.answer (s : State) (w : Word) : State := { s with readData := w }

/-- A refused read, or a read out of range: 0, and HOSTERR (R62, R73, R85, R88). -/
def State.refuseRead (s : State) : State := s.flagHostErr.answer 0#32

/-- The answer of a window read: the element, or 0 with HOSTERR (R80-R85). -/
def State.answerWindow (s : State) (x : Option Nat) : State :=
  match x with
  | some v => s.answer (BitVec.ofNat 32 v)
  | none => s.refuseRead

/-- A read of a register that acts (R48-R61). -/
def State.readReg (s : State) : HostReg → State
  | .id => s.answer 0x52534143#32
  | .param0 => s.answer (Config.param0 s.cfg)
  | .param1 => s.answer (Config.param1 s.cfg)
  | .cmdcount => s.answer s.cmdCount
  | .cmd => s.answer 0#32
  | .arg0 => s.answer s.arg0
  | .arg1 => s.answer s.arg1
  | .ctrl => s.answer 0#32
  | .status => s.answer s.statusWord
  | .fault => s.answer s.faultWord
  | .res0 => s.answer s.res0
  | .res1 => s.answer s.res1
  | .inten => s.answer (BitVec.ofNat 32 (bit s.intEn))
  | .wsel => s.answer s.wsel
  | .widx => s.answer s.widx
  | .wdata => (s.answerWindow s.windowElement).windowAdvance
  | .wmeta => s.answerWindow s.windowMeta

/-- CTRL (R53): SRESET alone, or CANCEL (set wins over CANCEL_CLR), ACK and HOSTERR_CLR. -/
def State.writeCtrl (s : State) (w : Word) : State :=
  if w.getLsbD 31 then s.applyReset
  else
    { s with
      cancelPending := w.getLsbD 0 || (s.cancelPending && !w.getLsbD 1)
      done := s.done && !w.getLsbD 2
      hostErr := s.hostErr && !w.getLsbD 3 }

/-- A write to WDATA (R80-R85). -/
def State.writeElement (s : State) (w : Word) : State :=
  if s.space = 0 ∧ s.windowIndex < s.cfg.cap then s.setBig s.windowReg (s.windowDigitWritten w) else s.flagHostErr

/-- A write to WMETA (R61). -/
def State.writeMeta (s : State) (w : Word) : State :=
  if s.space = 0 then s.setBig s.windowReg (s.windowSignWritten w) else s.flagHostErr

/-- The bits of WSEL that hold state (R58): bits 7:4 and 15:12 read as 0. -/
def wselMask : Word := 0xFFFF0F0F#32

/-- A write to a register that acts (R48-R61); a read-only register sets HOSTERR. -/
def State.writeReg (s : State) (w : Word) : HostReg → State
  | .id => s.flagHostErr
  | .param0 => s.flagHostErr
  | .param1 => s.flagHostErr
  | .cmdcount => s.flagHostErr
  | .cmd => s.accept w
  | .arg0 => { s with arg0 := w }
  | .arg1 => { s with arg1 := w }
  | .ctrl => s.writeCtrl w
  | .status => s.flagHostErr
  | .fault => s.flagHostErr
  | .res0 => s.flagHostErr
  | .res1 => s.flagHostErr
  | .inten => { s with intEn := w.getLsbD 0 }
  | .wsel => { s with wsel := w &&& wselMask }
  | .widx => { s with widx := w }
  | .wdata => (s.writeElement w).windowAdvance
  | .wmeta => s.writeMeta w

/-- The access falls in this instance's block (R70). -/
def State.selected (s : State) (addr : Nat) : Bool :=
  decide (s.cfg.coreBase ≤ addr ∧ addr < s.cfg.coreBase + 4096)

/-- A 32-bit access to an aligned offset (R73). -/
def aligned (off size : Nat) : Bool := decide (size = 4 ∧ off % 4 = 0)

/-- The host reads `size` bytes at `addr` (R70, R73, R88). An access outside the block is not this instance's and
leaves it as it is (log entry 7). -/
def State.hostRead (s : State) (addr size : Nat) : State :=
  if s.selected addr then
    if aligned (addr - s.cfg.coreBase) size then
      match regAt (addr - s.cfg.coreBase) with
      | some r => if s.busy && !r.readsWhileBusy then s.refuseRead else s.readReg r
      | none => s.refuseRead
    else s.refuseRead
  else s

/-- The host writes `w` as `size` bytes at `addr` (R70, R73, R88). -/
def State.hostWrite (s : State) (addr size : Nat) (w : Word) : State :=
  if s.selected addr then
    if aligned (addr - s.cfg.coreBase) size then
      match regAt (addr - s.cfg.coreBase) with
      | some r => if s.busy && !r.writesWhileBusy then s.flagHostErr else s.writeReg w r
      | none => s.flagHostErr
    else s.flagHostErr
  else s

end Sys2Proof.Machine
end

