-- ==== Sys2Proof/Machine/Step.lean ====
section
/-! DEFINITION. One step of the machine: the next event of the schedule (R90), and the core when the schedule is empty
(log entry 1). -/

namespace Sys2Proof.Machine

/-- One step. Host accesses and core steps are atomic and take effect one at a time (R76, R90). -/
def step (s : State) : Host.Outcome State Fault Refusal :=
  match s.inputs with
  | [] => s.coreStep
  | .core :: rest => State.coreStep { s with inputs := rest }
  | .read addr size :: rest => .next (State.hostRead { s with inputs := rest } addr size)
  | .write addr size w :: rest => .next (State.hostWrite { s with inputs := rest } addr size w)
  | .rst :: rest => .next (State.applyReset { s with inputs := rest })

/-- `s` with the command word `w` accepted (R316) and nothing scheduled before the core's next step, so that `step` runs
it: it stands for the host's CMD write to an idle core (log entry 2). -/
def State.withFetchWord (s : State) (nbits w : Nat) : State :=
  if nbits ≤ 32 then { s.accept (BitVec.ofNat 32 w) with inputs := [] } else s

end Sys2Proof.Machine
end

