-- ==== Sys2Proof/Machine/HostProgram.lean ====
section
/-! DEFINITION. The host's side of a program: the operand order of assembler statements (R120), the number format (R123),
and the host accesses that a statement and each host pseudo-instruction stand for (R121, R122, R124), as events of the
schedule; and the conditions of the host's branches (R125). The core and `step` do not use this file. -/

namespace Sys2Proof.Machine

/-! ### Statements as written (R120) -/

/-- An operand as written: a big register, a residue vector, a bank, or a bank's use. -/
inductive Operand where
  | big (r : BReg)
  | vec (r : VReg)
  | bank (t : BankNo)
  | use (u : Use)
  deriving DecidableEq, Repr

/-- The operand's text (R120). -/
def Operand.text : Operand → String
  | .big r => "b" ++ toString r.val
  | .vec r => "r" ++ toString r.val
  | .bank t => "t" ++ toString t.val
  | .use .fresh => "fresh"
  | .use .reuse => "reuse"

/-- The mnemonic and the operands of a command, in the order of R120's table. -/
def statementOf : Instr → String × List Operand
  | .nop => ("nop", [])
  | .clr d => ("clr", [.big d])
  | .setone d => ("setone", [.big d])
  | .mov d a => ("mov", [.big d, .big a])
  | .setu64 d => ("setu64", [.big d])
  | .getu64 a => ("getu64", [.big a])
  | .test a => ("test", [.big a])
  | .cmp a b => ("cmp", [.big a, .big b])
  | .shl d a => ("shl", [.big d, .big a])
  | .shr d a => ("shr", [.big d, .big a])
  | .addu64 d a => ("addu64", [.big d, .big a])
  | .subu64 d a => ("subu64", [.big d, .big a])
  | .rndodd d => ("rndodd", [.big d])
  | .add d a b => ("add", [.big d, .big a, .big b])
  | .sub d a b => ("sub", [.big d, .big a, .big b])
  | .mul d a b => ("mul", [.big d, .big a, .big b])
  | .sqr d a => ("sqr", [.big d, .big a])
  | .div d a b c => ("div", [.big d, .big c, .big a, .big b])
  | .sdiv d a => ("sdiv", [.big d, .big a])
  | .rem32 a => ("rem32", [.big a])
  | .rem64 a => ("rem64", [.big a])
  | .gcd d a b => ("gcd", [.big d, .big a, .big b])
  | .inv d a b => ("inv", [.big d, .big a, .big b])
  | .invse d a => ("invse", [.big d, .big a])
  | .smallfact a => ("smallfact", [.big a])
  | .isqrt d a => ("isqrt", [.big d, .big a])
  | .modexp d a b c t u => ("modexp", [.big d, .big a, .big b, .big c, .bank t, .use u])
  | .fermat a t => ("fermat", [.big a, .bank t])
  | .fermat1 a t => ("fermat1", [.big a, .bank t])
  | .tblbuild a t => ("tblbuild", [.bank t, .big a])
  | .reduce d a t => ("reduce", [.big d, .big a, .bank t])
  | .rvfrom d a => ("rvfrom", [.vec d, .big a])
  | .rvadd d a b => ("rvadd", [.vec d, .vec a, .vec b])
  | .rvsub d a b => ("rvsub", [.vec d, .vec a, .vec b])
  | .rvmul d a b => ("rvmul", [.vec d, .vec a, .vec b])
  | .crt d a g u => ("crt", [.big d, .big a, .big ⟨g.val, by omega⟩, .use u])

/-- The statement's text, without label, literal and comment (R120). -/
def statementText (i : Instr) : String :=
  (statementOf i).1 ++ (if (statementOf i).2.isEmpty then "" else " ") ++
    ", ".intercalate ((statementOf i).2.map Operand.text)

/-! ### Literals (R123) -/

/-- The value of a decimal digit string whose separators are dropped; `none` at any other character. `seen` says that a
digit has been read. -/
def decimalFrom : (text : List Char) → (seen : Bool) → (value : Nat) → Option Nat
  | [], seen, value => if seen then some value else none
  | ch :: rest, seen, value =>
    if ch = ',' then decimalFrom rest seen value
    else if '0' ≤ ch ∧ ch ≤ '9' then decimalFrom rest true (value * 10 + (ch.toNat - '0'.toNat))
    else none

/-- A number literal: an optional '-', decimal digits, thousands separators anywhere among them (log entry 26). -/
def readLiteral (text : String) : Option Int :=
  match text.toList with
  | '-' :: rest => (decimalFrom rest false 0).map (fun v => -(v : Int))
  | rest => (decimalFrom rest false 0).map (fun v => (v : Int))

/-- A literal for a big register; a magnitude of `B^CAP` or more is an assembly error. -/
def readBigLiteral (c : Config) (text : String) : Option Int :=
  match readLiteral text with
  | some v => if v.natAbs < radix ^ c.cap then some v else none
  | none => none

/-- What a command's `#literal` is (R121). -/
inductive LiteralForm where
  | noLiteral
  | word
  | double
  deriving DecidableEq, Repr

/-- R121: a 64-bit literal, a 32-bit literal, or none. -/
def literalForm : Instr → LiteralForm
  | .setu64 _ => .double
  | .addu64 _ _ => .double
  | .subu64 _ _ => .double
  | .rem64 _ => .double
  | .shl _ _ => .word
  | .shr _ _ => .word
  | .rndodd _ => .word
  | .sdiv _ _ => .word
  | .rem32 _ => .word
  | .fermat _ _ => .word
  | .fermat1 _ _ => .word
  | .invse _ _ => .word
  | .nop => .noLiteral
  | .clr _ => .noLiteral
  | .setone _ => .noLiteral
  | .mov _ _ => .noLiteral
  | .getu64 _ => .noLiteral
  | .test _ => .noLiteral
  | .cmp _ _ => .noLiteral
  | .add _ _ _ => .noLiteral
  | .sub _ _ _ => .noLiteral
  | .mul _ _ _ => .noLiteral
  | .sqr _ _ => .noLiteral
  | .div _ _ _ _ => .noLiteral
  | .gcd _ _ _ => .noLiteral
  | .inv _ _ _ => .noLiteral
  | .smallfact _ => .noLiteral
  | .isqrt _ _ => .noLiteral
  | .modexp _ _ _ _ _ _ => .noLiteral
  | .tblbuild _ _ => .noLiteral
  | .reduce _ _ _ => .noLiteral
  | .rvfrom _ _ => .noLiteral
  | .rvadd _ _ _ => .noLiteral
  | .rvsub _ _ _ => .noLiteral
  | .rvmul _ _ _ => .noLiteral
  | .crt _ _ _ _ => .noLiteral

/-- `FERMAT_DEFAULT` (R7). -/
def fermatDefault : Nat := 20

/-! ### Host accesses (R121, R122, R124) -/

/-- `mw off, v`. -/
def memWrite (c : Config) (off : Nat) (v : Word) : Input := .write (c.coreBase + off) 4 v

/-- `mr off`. -/
def memRead (c : Config) (off : Nat) : Input := .read (c.coreBase + off) 4

/-- `arg0 = v`. -/
def setArg0 (c : Config) (v : Nat) : Input := memWrite c 0x014 (BitVec.ofNat 32 v)

/-- `arg1 = v`. -/
def setArg1 (c : Config) (v : Nat) : Input := memWrite c 0x018 (BitVec.ofNat 32 v)

/-- `arg64 = v`. -/
def setArg64 (c : Config) (v : Nat) : List Input := [setArg0 c (v % 2 ^ 32), setArg1 c (v / 2 ^ 32)]

/-- `wait`, in the interleaving in which the core takes one step before each of the `polls` reads of STATUS (R124;
log entry 26). -/
def waitFor (c : Config) : (polls : Nat) → List Input
  | 0 => []
  | n + 1 => .core :: memRead c 0x020 :: waitFor c n

/-- `ack`, `cancel`, `uncancel`, `sreset`. -/
def ackWrite (c : Config) : Input := memWrite c 0x01C 0x4#32
def cancelWrite (c : Config) : Input := memWrite c 0x01C 0x1#32
def uncancelWrite (c : Config) : Input := memWrite c 0x01C 0x2#32
def sresetWrite (c : Config) : Input := memWrite c 0x01C 0x80000000#32

/-- The writes of a `#literal`; `none` where the command takes none or the literal is too large (R121). -/
def literalWrites (c : Config) (i : Instr) (v : Nat) : Option (List Input) :=
  match literalForm i with
  | .noLiteral => none
  | .word => if v < 2 ^ 32 then some [setArg0 c v] else none
  | .double => if v < 2 ^ 64 then some (setArg64 c v) else none

/-- Without a literal only FERMAT writes a scalar, its default round count (R121). -/
def defaultWrites (c : Config) : Instr → List Input
  | .fermat _ _ => [setArg0 c fermatDefault]
  | _ => []

/-- The events of a command statement (R122): its literal's writes, the CMD write, and a wait of `polls` reads; `polls = 0`
is the form `.nw`. -/
def statementEvents (c : Config) (i : Instr) (literal : Option Nat) (polls : Nat) : Option (List Input) :=
  match literal with
  | some v => (literalWrites c i v).map (fun ws => ws ++ memWrite c 0x010 (encode i) :: waitFor c polls)
  | none => some (defaultWrites c i ++ memWrite c 0x010 (encode i) :: waitFor c polls)

/-- `WSEL` for SPACE 0 with AINC (R124). -/
def bigSelector (r : BReg) : Word := BitVec.ofNat 32 (0x8 + r.val * 2 ^ 8)

/-- The digit writes of `li`: digits `i`, `i+1`, ..., `n` of them. -/
def digitWrites (c : Config) (v : Nat) : (n i : Nat) → List Input
  | 0, _ => []
  | n + 1, i => memWrite c 0x048 (BitVec.ofNat 32 (digit v i)) :: digitWrites c v n (i + 1)

/-- `li bN, v`: CLR with its wait, the digits low to high, and the sign last (R124). -/
def loadLiteral (c : Config) (r : BReg) (v : Int) : List Input :=
  memWrite c 0x010 (encode (.clr r)) :: waitFor c 1 ++
    (memWrite c 0x040 (bigSelector r) :: memWrite c 0x044 0#32 :: digitWrites c v.natAbs (ndig v.natAbs) 0) ++
    (if v < 0 then [memWrite c 0x04C 0x80000000#32] else [])

/-- `rd bN` up to its read of WMETA, and the digit reads that follow it, `m[15:0] + 1` of them for the WMETA value `m`. -/
def readBigHead (c : Config) (r : BReg) : List Input :=
  [memWrite c 0x040 (bigSelector r), memWrite c 0x044 0#32, memRead c 0x04C]

def readBigDigits (c : Config) (m : Word) : List Input := List.replicate (m.toNat % 2 ^ 16 + 1) (memRead c 0x048)

/-- `rdrv rN, s`. -/
def readSlot (c : Config) (r : VReg) (slot : Word) : List Input :=
  [memWrite c 0x040 (BitVec.ofNat 32 (3 + r.val * 2 ^ 8)), memWrite c 0x044 slot, memRead c 0x048]

/-! ### The host's branches (R125) -/

/-- The flags a branch can name, in the order of their STATUS bits (R45). -/
inductive FlagName where
  | z
  | n
  | one
  | f64
  | eq
  | gt
  | prime
  | found
  | exact
  deriving DecidableEq, Repr

/-- The flag's bit of STATUS (R45). -/
def FlagName.position : FlagName → Nat
  | .z => 16
  | .n => 17
  | .one => 18
  | .f64 => 19
  | .eq => 20
  | .gt => 21
  | .prime => 22
  | .found => 23
  | .exact => 24

/-- The host's branch statements (R125); labels, the host's pc and `halt` are the host's own. -/
inductive HostBranch where
  | jmp
  | jflag (f : FlagName)
  | jnflag (f : FlagName)
  | jerr
  | jcan
  deriving DecidableEq, Repr

/-- Whether the branch is taken on the STATUS word the host read (R125). -/
def HostBranch.taken (status : Word) : HostBranch → Bool
  | .jmp => true
  | .jflag f => status.getLsbD f.position
  | .jnflag f => !status.getLsbD f.position
  | .jerr => status.getLsbD 2
  | .jcan => status.getLsbD 3

end Sys2Proof.Machine
end

