-- ==== Sys2Proof/Machine/Datapath.lean ====
section
/-! DEFINITION. The datapaths the spec describes beside the exact results of the commands: the normalizing divider
(R165-R176), the schoolbook multiplier (R195), the digit-by-digit square root (R205), Euclid's loop (R200) and the
schedule of the Garner step (R291). They decide timing, never a result (R15, R177), so no command calls them; that each
computes its command's result is stated among the obligations (log entry 18). -/

namespace Sys2Proof.Machine

/-! ### The divider -/

/-- `multiplyTop(x, q, j) = x·q·B^j` (R174). -/
def multiplyTop (x q j : Nat) : Nat := x * q * radix ^ j

/-- `multiplyTopOne(x, j) = x·B^j` (R174). -/
def multiplyTopOne (x j : Nat) : Nat := x * radix ^ j

/-- The normalization shift (R167): the leading zero bits of the 32-bit word `v`. -/
def leadingZeros (v : Nat) : Nat := 32 - bitlen v

/-- The position of the quotient's leading digit (R166). -/
def leadingPosition (a d : Nat) : Nat :=
  if a < multiplyTopOne d (ndig a - ndig d) then ndig a - ndig d - 1 else ndig a - ndig d

/-- The trial digit (R168): the top two digits of `r` at `j`, over the leading digit of `d`, at most `B - 1`. -/
def trialDigit (d nb r j : Nat) : Nat :=
  min ((digit r (j + nb) * radix + digit r (j + nb - 1)) / digit d (nb - 1)) (radix - 1)

/-- The binary search of R171 over bits `n-1` down to 0 of the digit. -/
def searchDigit (d r j : Nat) : (n q : Nat) → Nat
  | 0, q => q
  | n + 1, q => if multiplyTop d (q + 2 ^ n) j ≤ r then searchDigit d r j n (q + 2 ^ n) else searchDigit d r j n q

/-- `correct(qhat, j)` (R169, R170, R171). -/
def correctDigit (d r j qhat : Nat) : Nat :=
  if multiplyTop d qhat j ≤ r then qhat
  else if multiplyTop d (qhat - 1) j ≤ r then qhat - 1
  else searchDigit d r j 32 0

/-- The quotient-digit loop (R168) on the normalized divisor `d` of `nb` digits: positions `n-1` down to 0, remainder `r`
and quotient `q` so far. -/
def quotientLoop (d nb : Nat) : (n r q : Nat) → Nat
  | 0, _, q => q
  | j + 1, r, q =>
    quotientLoop d nb j (r - multiplyTop d (correctDigit d r j (trialDigit d nb r j)) j)
      (q + correctDigit d r j (trialDigit d nb r j) * radix ^ j)

/-- The quotient of long division: R166, R167 and R168. -/
def longQuotient (a d : Nat) : Nat :=
  quotientLoop (d * 2 ^ leadingZeros (digit d (ndig d - 1))) (ndig d) (leadingPosition a d + 1)
    (a * 2 ^ leadingZeros (digit d (ndig d - 1))) 0

/-- Long division; the remainder is recomputed from the unshifted operands (R173). -/
def longDivide (a d : Nat) : Nat × Nat := (longQuotient a d, a - longQuotient a d * d)

/-- The pass of short division (R175) over digits `n-1` down to 0: quotient and remainder. -/
def shortLoop (a d : Nat) : (n r q : Nat) → Nat × Nat
  | 0, r, q => (q, r)
  | i + 1, r, q => shortLoop a d i ((r * radix + digit a i) % d) (q + (r * radix + digit a i) / d * radix ^ i)

/-- Short division by a one-digit divisor (R175). -/
def shortDivide (a d : Nat) : Nat × Nat := shortLoop a d (ndig a) 0 0

/-- The fold of the remainder-only path (R176) over digits `n-1` down to 0. -/
def remainderLoop (a d : Nat) : (n r : Nat) → Nat
  | 0, r => r
  | i + 1, r => remainderLoop a d i ((r * radix + digit a i) % d)

/-- Remainder only (R176): native when the dividend fits 64 bits. -/
def remainderOnly (a d : Nat) : Nat := if a < 2 ^ 64 then a % d else remainderLoop a d (ndig a) 0

/-- The divider's dispatch (R165). -/
def datapathDivide (a d : Nat) : Nat × Nat :=
  if a < 2 ^ 64 ∧ d < 2 ^ 64 then (a / d, a % d)
  else if a < d then (0, a)
  else if a = d then (1, 0)
  else if d < 2 ^ 32 then shortDivide a d
  else longDivide a d

/-! ### The multiplier -/

/-- The partial product of row `i` in output column `k` (R195). -/
def partialProduct (x y k i : Nat) : Nat := digit x i * digit y (k - i)

/-- The low 32-bit parts of column `k`'s partial products, summed (R195). -/
def columnLow (x y k : Nat) : Nat := ((List.range (k + 1)).map (fun i => partialProduct x y k i % radix)).sum

/-- The high 32-bit parts of column `k`'s partial products, summed (R195); they belong to column `k + 1`. -/
def columnHigh (x y k : Nat) : Nat := ((List.range (k + 1)).map (fun i => partialProduct x y k i / radix)).sum

/-- What column `k` receives before the carry: its own low parts and the high parts of the column below. -/
def columnSum (x y k : Nat) : Nat := columnLow x y k + (if k = 0 then 0 else columnHigh x y (k - 1))

/-- The carry pass (R195) over `n` columns from `k` up, with the carry into column `k`. -/
def carryPass (x y : Nat) : (n k carry : Nat) → Nat
  | 0, _, _ => 0
  | n + 1, k, carry =>
    (columnSum x y k + carry) % radix + radix * carryPass x y n (k + 1) ((columnSum x y k + carry) / radix)

/-- The schoolbook product of two magnitudes (R195). -/
def schoolbookProduct (x y : Nat) : Nat := carryPass x y (ndig x + ndig y) 0 0

/-! ### The square root -/

/-- The next root digit at position `j` under the partial root `b` (R205): the largest `x` of `n` bits above `x0` with
`x·B^j·(2·b + x·B^j)` at most the residual `r`. The trial upper bound of R205 is not modelled: the spec does not give it,
and it affects only timing. -/
def searchRootDigit (b r j : Nat) : (n x : Nat) → Nat
  | 0, x => x
  | n + 1, x =>
    if (x + 2 ^ n) * radix ^ j * (2 * b + (x + 2 ^ n) * radix ^ j) ≤ r then searchRootDigit b r j n (x + 2 ^ n)
    else searchRootDigit b r j n x

/-- Digit positions `n-1` down to 0 of the root of `a`, under the partial root `b` (R205). -/
def rootDigits (a : Nat) : (n b : Nat) → Nat
  | 0, b => b
  | j + 1, b => rootDigits a j (b + searchRootDigit b (a - b * b) j 32 0 * radix ^ j)

/-- The root of R205: 32 rounds on the top chunk of at most 64 bits, then digit by digit. -/
def datapathRoot (a : Nat) : Nat :=
  rootDigits a ((ndig a - 1) / 2) (rootBits (a / radix ^ (2 * ((ndig a - 1) / 2))) 32 0 * radix ^ ((ndig a - 1) / 2))

/-! ### Euclid's loop and the Garner schedule -/

/-- The loop of R200 from `(u, w)`; `w` gets smaller each turn, so `fuel > w` never runs out. -/
def euclidLoop : (fuel u w : Nat) → Nat
  | 0, u, _ => u
  | fuel + 1, u, w => if w = 0 then u else euclidLoop fuel w (u % w)

/-- GCD by the classic Euclidean algorithm (R200). -/
def euclidGcd (x y : Nat) : Nat := euclidLoop (y + 1) x y

/-- Add `p` to `m1` at most `n` times while `m1 < m2` (R291). -/
def addModulus (p m2 : Int) : (n : Nat) → (m1 : Int) → Int
  | 0, m1 => m1
  | n + 1, m1 => if m1 < m2 then addModulus p m2 n (m1 + p) else m1

/-- `h` of R291 by that schedule: additions of `p`, then one exact remainder. -/
def garnerStep (n : Nat) (qInv p m1 m2 : Int) : Int := qInv * (addModulus p m2 n m1 - m2) % p

end Sys2Proof.Machine
end

