-- ==== Sys2Proof/Safety.lean ====
section
/-! DEFINITION. What the claims are made of: how a command may end and what it leaves unchanged (R315, R317), what the
host's accesses leave unchanged, and the invariant of every state a run reaches (R31, R37, R42, R54, R63). -/

namespace Sys2Proof.Machine

/-! ### Endings -/

/-- What no core step of a command changes, whatever its ending: the parameters, the scalar operands, the counter, the
host-side registers, the schedule and the read-data lines (R46, R52, R315). -/
structure HostSideKept (s t : State) : Prop where
  cfg : t.cfg = s.cfg
  arg0 : t.arg0 = s.arg0
  arg1 : t.arg1 = s.arg1
  cmdCount : t.cmdCount = s.cmdCount
  hostErr : t.hostErr = s.hostErr
  intEn : t.intEn = s.intEn
  wsel : t.wsel = s.wsel
  widx : t.widx = s.widx
  inputs : t.inputs = s.inputs
  readData : t.readData = s.readData

/-- The bookkeeping of an end by success (R317(a)); a pending cancel stays pending (R321). -/
structure Succeeded (s t : State) : Prop where
  host : HostSideKept s t
  cancelPending : t.cancelPending = s.cancelPending
  phase : t.phase = .idle
  done : t.done = true
  err : t.err = false
  cancelled : t.cancelled = false
  faultCode : t.faultCode = .none
  faultOpc : t.faultOpc = 0#8

/-- No big register but those in `except` changes. -/
def BigKept (except : List BReg) (s t : State) : Prop := ∀ r : BReg, r ∉ except → t.b[r] = s.b[r]

/-- No bank but those in `except` changes. -/
def BanksKept (except : List BankNo) (s t : State) : Prop := ∀ r : BankNo, r ∉ except → t.tbl[r] = s.tbl[r]

/-- No residue vector but those in `except` changes. -/
def VectorsKept (except : List VReg) (s t : State) : Prop := ∀ r : VReg, r ∉ except → t.rv[r] = s.rv[r]

/-- RES0 and RES1 do not change. -/
def ResKept (s t : State) : Prop := t.res0 = s.res0 ∧ t.res1 = s.res1

/-- RES1 ‖ RES0 holds `v` (R44). -/
def ResHolds (t : State) (v : Nat) : Prop := v < 2 ^ 64 ∧ t.res0.toNat = v % 2 ^ 32 ∧ t.res1.toNat = v / 2 ^ 32

/-- The group Z, N, ONE, F64 from the primary result `v`, and no other flag changes (R46). -/
def FlagsFrom (v : Int) (f g : Flags) : Prop :=
  (g.z = true ↔ v = 0) ∧ (g.n = true ↔ v < 0) ∧ (g.one = true ↔ v = 1) ∧ (g.f64 = true ↔ v.natAbs < 2 ^ 64) ∧
    g.eq = f.eq ∧ g.gt = f.gt ∧ g.prime = f.prime ∧ g.found = f.found ∧ g.exact = f.exact

/-- The command of state `s` succeeds in `t` with the big result `v` in `b[d]`, its flags, and no other register, bank,
vector or RES written. -/
structure WritesBig (d : BReg) (v : Int) (s t : State) : Prop where
  ended : Succeeded s t
  result : t.b[d] = v
  draws : t.draws = s.draws
  flags : FlagsFrom v s.flags t.flags
  big : BigKept [d] s t
  banks : BanksKept [] s t
  vectors : VectorsKept [] s t
  res : ResKept s t

/-- The command of state `s` ends in `t` with fault `code` and changes nothing but STATUS, FAULT and PHASE (R314, R315,
R317(b)). -/
structure Faulted (opc : Byte) (code : FaultCode) (s t : State) : Prop where
  phase : t.phase = .idle
  done : t.done = true
  err : t.err = true
  cancelled : t.cancelled = false
  faultCode : t.faultCode = code
  faultOpc : t.faultOpc = opc
  host : HostSideKept s t
  cancelPending : t.cancelPending = s.cancelPending
  flags : t.flags = s.flags
  draws : t.draws = s.draws
  big : BigKept [] s t
  banks : BanksKept [] s t
  vectors : VectorsKept [] s t
  res : ResKept s t

/-- The command of state `s` ends in `t` by cancellation and changes nothing but STATUS, FAULT and PHASE (R317(c)). -/
structure Cancelled (s t : State) : Prop where
  phase : t.phase = .idle
  done : t.done = true
  err : t.err = false
  cancelled : t.cancelled = true
  faultCode : t.faultCode = .none
  faultOpc : t.faultOpc = 0#8
  cancelPending : t.cancelPending = false
  host : HostSideKept s t
  flags : t.flags = s.flags
  draws : t.draws = s.draws
  big : BigKept [] s t
  banks : BanksKept [] s t
  vectors : VectorsKept [] s t
  res : ResKept s t

/-- Of the data a command can write, none is (R315). -/
structure DataKept (s t : State) : Prop where
  big : BigKept [] s t
  banks : BanksKept [] s t
  vectors : VectorsKept [] s t
  draws : t.draws = s.draws

/-- The answer `r` of a command whose exact result for `b[d]` is `v`: the result where it fits, OVERFLOW where not (R13). -/
def ExactOrOverflow (opc : Byte) (d : BReg) (v : Int) (s : State) (r : Result) : Prop :=
  (v.natAbs < radix ^ s.cfg.cap → ∃ t, r = .next t ∧ WritesBig d v s t) ∧
    (radix ^ s.cfg.cap ≤ v.natAbs → ∃ t, r = .next t ∧ Faulted opc .overflow s t)

/-- The command runs in `s` and its next core step is segment `n` (R323). -/
def AtSegment (n : Nat) (s : State) : Prop := ∃ j, s.phase = .run j ∧ j.seg = n

/-- From `s` to `t` the command moves on to segment `n` and, but for the banks in `except`, no state that a host access
or a command can see changes (R315, R323). -/
structure MovesOn (n : Nat) (except : List BankNo) (s t : State) : Prop where
  host : HostSideKept s t
  cancelPending : t.cancelPending = s.cancelPending
  done : t.done = s.done
  err : t.err = s.err
  cancelled : t.cancelled = s.cancelled
  faultCode : t.faultCode = s.faultCode
  faultOpc : t.faultOpc = s.faultOpc
  flags : t.flags = s.flags
  draws : t.draws = s.draws
  big : BigKept [] s t
  banks : BanksKept except s t
  vectors : VectorsKept [] s t
  res : ResKept s t
  phase : ∀ j, s.phase = .run j → t.phase = .run { j with seg := n }

/-- The four commands with safe points (R322). -/
def hasSafePoints : Instr → Bool
  | .modexp _ _ _ _ _ _ => true
  | .fermat _ _ => true
  | .fermat1 _ _ => true
  | .crt _ _ _ _ => true
  | _ => false

/-- At most `n` core steps of command `i`, with no host access between them, up to its end. -/
def runCommand (i : Instr) : Nat → State → Result
  | 0, s => .next s
  | n + 1, s =>
    match exec i s with
    | .next t => if t.phase = .idle then .next t else runCommand i n t
    | .fault f => .fault f
    | .refused f => .refused f

/-- `v^e mod m` with the source's rule that exponent 0 gives 1 (R230). -/
def powerMod (v e m : Nat) : Nat := if e = 0 then 1 else v ^ e % m

/-- CRT's operands as R290 lays them out: the ciphertext in `b[a]`, and P, Q, dP, dQ, qInv in the five registers from
number `g` up, as they were when the command was accepted (R112). -/
structure KeyAt (s : State) (a : BReg) (g : KeyGroup) (c p q dP dQ qInv : Int) : Prop where
  ciphertext : s.opBig a = c
  primeP : ∀ r : BReg, r.val = g.val → s.opBig r = p
  primeQ : ∀ r : BReg, r.val = g.val + 1 → s.opBig r = q
  exponentP : ∀ r : BReg, r.val = g.val + 2 → s.opBig r = dP
  exponentQ : ∀ r : BReg, r.val = g.val + 3 → s.opBig r = dQ
  inverseQ : ∀ r : BReg, r.val = g.val + 4 → s.opBig r = qInv

/-- The verdict of a Fermat command in `t` (R235, R238): PRIME, the witness in RES0, 0 in RES1, no other flag. -/
structure Verdict (isPrime : Bool) (witness : Nat) (s t : State) : Prop where
  prime : t.flags = { s.flags with prime := isPrime }
  res0 : t.res0 = BitVec.ofNat 32 witness
  res1 : t.res1 = 0#32

/-! ### Host accesses -/

/-- The next event is a host read of 4 bytes at offset `off` of the block (R70). -/
def ReadsNext (s : State) (off : Nat) (rest : List Input) : Prop := s.inputs = .read (s.cfg.coreBase + off) 4 :: rest

/-- The next event is a host write of `w` as 4 bytes at offset `off` of the block (R70). -/
def WritesNext (s : State) (off : Nat) (w : Word) (rest : List Input) : Prop :=
  s.inputs = .write (s.cfg.coreBase + off) 4 w :: rest

/-- WIDX after a WDATA access (R86): one more, modulo 2^32, when WSEL bit 3 is set. -/
def steppedIndex (s : State) : Word := if s.wsel.getLsbD 3 then s.widx + 1#32 else s.widx

/-- `s` after a WDATA read that returns `v`. -/
def windowAnswered (s : State) (rest : List Input) (v : Nat) : State :=
  { s with inputs := rest, readData := BitVec.ofNat 32 v, widx := steppedIndex s }

/-- `s` after a WDATA read that is out of range: 0, and HOSTERR. -/
def windowMissed (s : State) (rest : List Input) : State :=
  { s with inputs := rest, readData := 0#32, hostErr := true, widx := steppedIndex s }

/-- `s` after a WDATA write that is ignored: HOSTERR. -/
def windowIgnored (s : State) (rest : List Input) : State :=
  { s with inputs := rest, hostErr := true, widx := steppedIndex s }

/-- `s` after a refused read, or a WMETA read out of range: 0, and HOSTERR (R62, R73, R88). -/
def readRefused (s : State) (rest : List Input) : State := { s with inputs := rest, readData := 0#32, hostErr := true }

/-- `s` after a refused or ignored write: HOSTERR. -/
def writeRefused (s : State) (rest : List Input) : State := { s with inputs := rest, hostErr := true }

/-- `s` after a read that returns `w` and does nothing else. -/
def readAnswered (s : State) (rest : List Input) (w : Word) : State := { s with inputs := rest, readData := w }

/-- The values of R64, R350: every piece of the spec's state at reset. -/
structure AtReset (t : State) : Prop where
  b : ∀ r : BReg, t.b[r] = 0
  tbl : ∀ k : BankNo, t.tbl[k] = Bank.invalid
  rv : ∀ r : VReg, t.rv[r] = List.replicate (2 * t.cfg.cap) 0
  arg0 : t.arg0 = 0#32
  arg1 : t.arg1 = 0#32
  res0 : t.res0 = 0#32
  res1 : t.res1 = 0#32
  flags : t.flags.field = 0
  cmdCount : t.cmdCount = 0#32
  fault : t.faultWord = 0#32
  inten : t.intEn = false
  wsel : t.wsel = 0#32
  widx : t.widx = 0#32
  phase : t.phase = .init
  status : t.statusWord = 0x00000041#32
  irq : t.irq = false

/-! ### The invariant -/

/-- Rule R37: a valid bank is the table of its modulus and fits, an invalid one is empty. -/
def Bank.Sound (c : Config) (bk : Bank) : Prop :=
  if bk.valid then bk = Bank.build bk.modulus ∧ 1 ≤ bk.modulus ∧ bk.len ≤ c.cap else bk = Bank.invalid

/-- Rule R42: one slot per prime, each below its prime. -/
def slotsBelow : (slots primes : List Nat) → Bool
  | [], [] => true
  | x :: xs, p :: ps => decide (x < p) && slotsBelow xs ps
  | _, _ => false

/-- The checks of a command with safe points hold nothing against the operands and state of `s` (R312). -/
def State.checksPassed (s : State) : Instr → Bool
  | .modexp _ a b c t u =>
    decide (firstFault (s.modexpChecks (s.opBig a) (s.opBig b) (s.opBig c) t u) = none)
  | .fermat a _ => decide (firstFault (s.fermatChecks (s.opBig a) s.arg32) = none)
  | .fermat1 a _ => decide (firstFault (s.fermat1Checks (s.opBig a)) = none)
  | .crt _ a g u => decide (firstFault (s.crtChecks (s.crtKey a g) u) = none)
  | _ => false

/-- A running command (R63, R316, R323): its snapshot is the register file, nothing is recorded of an ending, and past
segment 0 it is a command with safe points that passed its checks. -/
structure JobSound (s : State) (j : Job) : Prop where
  snap : j.snap = s.b
  done : s.done = false
  err : s.err = false
  cancelled : s.cancelled = false
  checked : j.seg ≠ 0 → ∃ i, decode j.word = .ok i ∧ s.checksPassed i = true

/-- The invariant: parameters in range (R7), canonical registers (R31), sound banks (R37) and vectors (R42), the reserved
bits of WSEL 0 (R58), at most one of ERR and CANCELLED with FAULT as ERR says (R54, R55, R317), and a sound running
command. -/
structure State.Sound (s : State) : Prop where
  config : s.cfg.Valid
  registers : ∀ r : BReg, s.fits s.b[r] = true
  banks : ∀ t : BankNo, Bank.Sound s.cfg s.tbl[t]
  vectors : ∀ r : VReg, slotsBelow s.rv[r] s.cfg.slotPrimes = true
  selector : s.wsel &&& wselMask = s.wsel
  endings : ¬(s.err = true ∧ s.cancelled = true)
  faultClear : s.err = false → s.faultCode = .none ∧ s.faultOpc = 0#8
  faultSet : s.err = true → s.faultCode ≠ .none
  running : ∀ j, s.phase = .run j → JobSound s j
  initial : s.phase = .init → s.done = false ∧ s.err = false ∧ s.cancelled = false

end Sys2Proof.Machine
end

