-- ==== Sys2Proof/Certificates/Slice0/Obligations.lean ====
section
/-! DEFINITION. The statements for the provers. Each docstring names the rule of spec/ it formalises. "The operand of a
register" is its value when the command was accepted (R112): `s.opBig r`. -/

open Sys2Proof Sys2Proof.Machine

/-! ### Command words -/

/-- R101, R104: the decoder gives every well-formed instruction back from its word. -/
def Obligations.DecodeOfEncode : Prop := ∀ i : Instr, i.wellFormed = true → decode (encode i) = .ok i

/-- R101, R104, R105: a word that decodes is the word of the instruction it decodes to, and that instruction is well formed;
so no two words share a meaning. -/
def Obligations.EncodeOfDecode : Prop :=
  ∀ (w : Word) (i : Instr), decode w = .ok i → i.wellFormed = true ∧ encode i = w

/-- R105: a word is legal, by the opcode table's masks and match values and the constraints (c)-(e), exactly when it
decodes; an accepted word that is not legal ends at once, in the core's turn, with ILLEGAL_COMMAND and changes nothing
else. -/
def Obligations.LegalWordsDecodeOthersEnd : Prop :=
  (∀ w : Word, legal w = true ↔ ∃ i, decode w = .ok i) ∧
    ∀ (s : State) (j : Job) (rest : List Input), s.inputs = .core :: rest → s.phase = .run j → legal j.word = false →
      ∃ t, step s = .next t ∧ Faulted (opcodeByte j.word) .illegalCommand { s with inputs := rest } t

/-- R106: every opcode outside R104 is reserved, and a word with it is illegal. -/
def Obligations.ReservedOpcodesIllegal : Prop :=
  ∀ (w : Word) (op : Nat), op = w.toNat / 2 ^ 24 →
    (0x0D ≤ op ∧ op ≤ 0x0F) ∨ (0x14 ≤ op ∧ op ≤ 0x17) ∨ (0x1C ≤ op ∧ op ≤ 0x1F) ∨ (0x25 ≤ op ∧ op ≤ 0x27) ∨
      (0x2B ≤ op ∧ op ≤ 0x2F) ∨ (0x32 ≤ op ∧ op ≤ 0x37) ∨ (0x3C ≤ op ∧ op ≤ 0x3F) ∨ (0x41 ≤ op ∧ op ≤ 0xEF) ∨
      (0xF0 ≤ op ∧ op ≤ 0xFF) →
    decode w = .error .reservedOpcode ∧ legal w = false

/-- R101, R104: one word of every row of the opcode map, written out by the fields of R101, decodes to its command; the
last seven are R126's examples, which the spec derives from the same two rules. -/
def Obligations.SpecExampleWordsDecode : Prop :=
  (decode 0x00000000#32 = .ok .nop ∧ decode 0x01500000#32 = .ok (.clr 5) ∧ decode 0x02600000#32 = .ok (.setone 6) ∧
    decode 0x03270000#32 = .ok (.mov 2 7) ∧ decode 0x04300000#32 = .ok (.setu64 3) ∧
    decode 0x05010000#32 = .ok (.getu64 1) ∧ decode 0x06040000#32 = .ok (.test 4) ∧
    decode 0x07012000#32 = .ok (.cmp 1 2) ∧ decode 0x08210000#32 = .ok (.shl 2 1) ∧
    decode 0x09210000#32 = .ok (.shr 2 1) ∧ decode 0x0A210000#32 = .ok (.addu64 2 1) ∧
    decode 0x0B210000#32 = .ok (.subu64 2 1) ∧ decode 0x0C400000#32 = .ok (.rndodd 4)) ∧
  (decode 0x10123000#32 = .ok (.add 1 2 3) ∧ decode 0x11123000#32 = .ok (.sub 1 2 3) ∧
    decode 0x1219A000#32 = .ok (.mul 1 9 10) ∧ decode 0x13210000#32 = .ok (.sqr 2 1) ∧
    decode 0x18201300#32 = .ok (.div 2 0 1 3) ∧ decode 0x19210000#32 = .ok (.sdiv 2 1) ∧
    decode 0x1A010000#32 = .ok (.rem32 1) ∧ decode 0x1B010000#32 = .ok (.rem64 1) ∧
    decode 0x20501000#32 = .ok (.gcd 5 0 1) ∧ decode 0x21604000#32 = .ok (.inv 6 0 4) ∧
    decode 0x22210000#32 = .ok (.invse 2 1) ∧ decode 0x23070000#32 = .ok (.smallfact 7) ∧
    decode 0x24210000#32 = .ok (.isqrt 2 1)) ∧
  (decode 0x28F12300#32 = .ok (.modexp 15 1 2 3 0 .fresh) ∧ decode 0x29030080#32 = .ok (.fermat 3 1) ∧
    decode 0x2A0E0000#32 = .ok (.fermat1 14 0) ∧ decode 0x30010080#32 = .ok (.tblbuild 1 1) ∧
    decode 0x31210080#32 = .ok (.reduce 2 1 1) ∧ decode 0x383F0000#32 = .ok (.rvfrom 3 15) ∧
    decode 0x39012000#32 = .ok (.rvadd 0 1 2) ∧ decode 0x3A123000#32 = .ok (.rvsub 1 2 3) ∧
    decode 0x3B201000#32 = .ok (.rvmul 2 0 1) ∧ decode 0x40F1B040#32 = .ok (.crt 15 1 11 .reuse)) ∧
  decode 0x00000000#32 = .ok .nop ∧
    decode 0x10123000#32 = .ok (.add 1 2 3) ∧
    decode 0x18467500#32 = .ok (.div 4 6 7 5) ∧
    decode 0x280123C0#32 = .ok (.modexp 0 1 2 3 1 .reuse) ∧
    decode 0x4090A000#32 = .ok (.crt 9 0 10 .fresh) ∧
    decode 0x3B201000#32 = .ok (.rvmul 2 0 1) ∧
    decode 0x29030000#32 = .ok (.fermat 3 0)

/-! ### Steps -/

/-- R323, R105: when it is the core's turn and the running command's word decodes to `i`, a step is `exec i`, after the event
that gave the core its turn is taken off the schedule. That an empty schedule gives the core its turn, whatever the phase
and also when the word is not legal, is the model's choice (log entry 1); the last clause says it. -/
def Obligations.StepRunsDecodedCommand : Prop :=
  (∀ (s : State) (j : Job) (i : Instr), s.phase = .run j → decode j.word = .ok i →
    (s.inputs = [] → step s = exec i s) ∧
      ∀ rest, s.inputs = .core :: rest → step s = exec i { s with inputs := rest }) ∧
    ∀ s : State, s.inputs = [] → step s = step { s with inputs := [.core] }

/-- R73, R88, R331: nothing stops the machine; every step from every state answers a next state. -/
def Obligations.StepAlwaysAnswersNext : Prop := ∀ s : State, ∃ t, step s = .next t

/-- R316: a CMD write to an idle core is accepted, with the writes of R316 and no others; a CMD write to a busy core is
refused. That the operands read at accept are held as a snapshot of the whole register file is the model's choice of form
(log entry 11). -/
def Obligations.AcceptStartsTheCommand : Prop :=
  ∀ (s : State) (w : Word) (rest : List Input), WritesNext s 0x010 w rest →
    (s.busy = false →
      step s = .next { s with
        inputs := rest
        cmdCount := BitVec.ofNat 32 ((s.cmdCount.toNat + 1) % 2 ^ 32)
        done := false
        err := false
        cancelled := false
        faultCode := .none
        faultOpc := 0#8
        phase := .run { word := w, snap := s.b, seg := 0 } }) ∧
      (s.busy = true → step s = .next (writeRefused s rest))

/-- R88: while BUSY = 1 the reads of ID, PARAM0, PARAM1, CMDCOUNT, STATUS, FAULT and INTEN act (they answer and do nothing
else), the writes of CTRL and INTEN act (they do not set HOSTERR), and every other aligned access is refused. That the read
of CTRL is among the refused, by R88's list and against R53's "accepted in every state", is the model's reading (log entry
8). -/
def Obligations.BusyRefusesOtherAccesses : Prop :=
  ∀ (s : State) (off : Nat) (w : Word) (rest : List Input), s.busy = true → off < 4096 → off % 4 = 0 →
    (ReadsNext s off rest →
      (off ∈ [0x000, 0x004, 0x008, 0x00C, 0x020, 0x024, 0x030] → ∃ v, step s = .next (readAnswered s rest v)) ∧
        (off ∉ [0x000, 0x004, 0x008, 0x00C, 0x020, 0x024, 0x030] → step s = .next (readRefused s rest))) ∧
      (WritesNext s off w rest →
        (off ∈ [0x01C, 0x030] → ∃ t, step s = .next t ∧ (s.hostErr = false → t.hostErr = false)) ∧
          (off ∉ [0x01C, 0x030] → step s = .next (writeRefused s rest)))

/-- R48, R49: ID, PARAM0 and PARAM1 read as the constants the rules give, in every state, and writes to them are ignored
and set HOSTERR. -/
def Obligations.IdAndParamRegisters : Prop :=
  ∀ (s : State) (w : Word) (rest : List Input), s.cfg.Valid →
    (ReadsNext s 0x000 rest → step s = .next (readAnswered s rest 0x52534143#32)) ∧
      (ReadsNext s 0x004 rest → ∃ v, step s = .next (readAnswered s rest v) ∧ v.toNat % 2 ^ 16 = s.cfg.cap ∧
        v.toNat / 2 ^ 16 % 2 ^ 8 = 16 ∧ v.toNat / 2 ^ 24 % 2 ^ 4 = 4 ∧ v.toNat / 2 ^ 28 = 2) ∧
      (ReadsNext s 0x008 rest → ∃ v, step s = .next (readAnswered s rest v) ∧ v.toNat % 2 ^ 16 = s.cfg.primeCount ∧
        v.toNat / 2 ^ 16 = 2 * s.cfg.cap) ∧
      (WritesNext s 0x000 w rest ∨ WritesNext s 0x004 w rest ∨ WritesNext s 0x008 w rest →
        step s = .next (writeRefused s rest))

/-- R62, R73: an access to a reserved offset, of another size than 4 bytes, or to an offset that is not a multiple of 4
does nothing but set HOSTERR, and a read of it returns 0; in every state. -/
def Obligations.BadAccessesOnlySetHosterr : Prop :=
  ∀ (s : State) (off size : Nat) (w : Word) (rest : List Input), off < 4096 →
    size ≠ 4 ∨ off % 4 ≠ 0 ∨
      off ∉ [0x000, 0x004, 0x008, 0x00C, 0x010, 0x014, 0x018, 0x01C, 0x020, 0x024, 0x028, 0x02C, 0x030, 0x040, 0x044, 0x048,
        0x04C] →
    (s.inputs = .read (s.cfg.coreBase + off) size :: rest → step s = .next (readRefused s rest)) ∧
      (s.inputs = .write (s.cfg.coreBase + off) size w :: rest → step s = .next (writeRefused s rest))

/-- R53: a CTRL write with SRESET clear acts in every state on CANCEL_PENDING (set wins), DONE and HOSTERR and on nothing
else; with SRESET set it does what RST does, whatever its other bits. A CTRL read answers 0 in every state. -/
def Obligations.CtrlWritesAct : Prop :=
  ∀ (s : State) (w : Word) (rest : List Input),
    (WritesNext s 0x01C w rest → w.getLsbD 31 = false →
      ∃ t, step s = .next t ∧
        t = { s with inputs := rest, cancelPending := t.cancelPending, done := t.done, hostErr := t.hostErr } ∧
        (t.cancelPending = true ↔ w.getLsbD 0 = true ∨ (s.cancelPending = true ∧ w.getLsbD 1 = false)) ∧
        (t.done = true ↔ s.done = true ∧ w.getLsbD 2 = false) ∧
        (t.hostErr = true ↔ s.hostErr = true ∧ w.getLsbD 3 = false)) ∧
      (WritesNext s 0x01C w rest → w.getLsbD 31 = true → step s = step { s with inputs := .rst :: rest }) ∧
      (ReadsNext s 0x01C rest → ∃ t, step s = .next t ∧ t.readData = 0#32)

/-- R64, R350, R351: RST, and a CTRL write with bit 31 set, give every piece of the spec's state the value R64 states, in
every state; the parameters stay. -/
def Obligations.ResetLeavesSpecValues : Prop :=
  ∀ (s : State) (w : Word) (rest : List Input),
    s.inputs = .rst :: rest ∨ (WritesNext s 0x01C w rest ∧ w.getLsbD 31 = true) →
    ∃ t, step s = .next t ∧ AtReset t ∧ t.cfg = s.cfg ∧ t.inputs = rest

/-- R352, R64: in INIT the core's step (also on an empty schedule: the model's choice, log entry 1) ends initialisation and
changes nothing else, and from the reset state it leaves
STATUS = 0; a CMD write in INIT is refused. -/
def Obligations.InitialisationEnds : Prop :=
  (∀ (s : State) (w : Word) (rest : List Input), s.phase = .init →
    (s.inputs = .core :: rest → step s = .next { s with inputs := rest, phase := .idle }) ∧
      (s.inputs = [] → step s = .next { s with phase := .idle }) ∧
      (WritesNext s 0x010 w rest → step s = .next (writeRefused s rest))) ∧
    ∀ c : Config, ∃ t, step (State.resetOf c) = .next t ∧ t.statusWord = 0x00000000#32

/-- R54, R45, R55, R310: the bits of STATUS and the fields of FAULT with the number of every code; a read of 0x020 or
0x024 answers these words in every state, and a write to either only sets HOSTERR. -/
def Obligations.StatusAndFaultWords : Prop :=
  ∀ (s : State) (w : Word) (rest : List Input),
    (s.statusWord.getLsbD 0 = s.busy ∧ s.statusWord.getLsbD 1 = s.done ∧ s.statusWord.getLsbD 2 = s.err ∧
      s.statusWord.getLsbD 3 = s.cancelled ∧ s.statusWord.getLsbD 4 = s.hostErr ∧
      s.statusWord.getLsbD 5 = s.cancelPending ∧ s.statusWord.getLsbD 6 = s.initialising) ∧
    (s.statusWord.getLsbD 16 = s.flags.z ∧ s.statusWord.getLsbD 17 = s.flags.n ∧
      s.statusWord.getLsbD 18 = s.flags.one ∧ s.statusWord.getLsbD 19 = s.flags.f64 ∧
      s.statusWord.getLsbD 20 = s.flags.eq ∧ s.statusWord.getLsbD 21 = s.flags.gt ∧
      s.statusWord.getLsbD 22 = s.flags.prime ∧ s.statusWord.getLsbD 23 = s.flags.found ∧
      s.statusWord.getLsbD 24 = s.flags.exact) ∧
    (∀ n, (7 ≤ n ∧ n ≤ 15) ∨ 25 ≤ n → s.statusWord.getLsbD n = false) ∧
    (s.faultWord.toNat % 2 ^ 8 =
      match s.faultCode with
      | .none => 0x00
      | .illegalCommand => 0x01
      | .divideByZero => 0x02
      | .invalidArgument => 0x03
      | .overflow => 0x04
      | .noInverse => 0x05
      | .internalInconsistency => 0x06
      | .staleTable => 0x07
      | .tableRange => 0x08) ∧
    s.faultWord.toNat / 2 ^ 8 = s.faultOpc.toNat ∧
    (ReadsNext s 0x020 rest → step s = .next (readAnswered s rest s.statusWord)) ∧
    (ReadsNext s 0x024 rest → step s = .next (readAnswered s rest s.faultWord)) ∧
    (WritesNext s 0x020 w rest ∨ WritesNext s 0x024 w rest → step s = .next (writeRefused s rest))

/-- R65, R330: IRQ is IE and DONE; so whatever way a running command ends, IRQ is IE after it, an ACK lowers it, and an
accept lowers it. -/
def Obligations.InterruptFollowsCompletion : Prop :=
  (∀ s : State, s.irq = (s.intEn && s.done)) ∧
    (∀ (i : Instr) (s t : State) (j : Job), s.phase = .run j → exec i s = .next t → t.phase = .idle →
      t.irq = s.intEn) ∧
    ∀ (s t : State) (w : Word) (rest : List Input), step s = .next t →
      (WritesNext s 0x01C w rest ∧ w.getLsbD 2 = true) ∨ (WritesNext s 0x010 w rest ∧ s.busy = false) → t.irq = false

/-! ### Host registers and the window -/

/-- R80: SPACE 0. A read gives the digit; a write replaces that one digit of the magnitude, and the sign stays unless the
value is now zero; beyond CAP the access misses. -/
def Obligations.WindowBigRegisterDigits : Prop :=
  ∀ (s : State) (r : BReg) (w : Word) (rest : List Input), s.phase = .idle → s.wsel.toNat % 8 = 0 →
    r.val = s.wsel.toNat / 2 ^ 8 % 16 → s.b[r].natAbs < radix ^ s.cfg.cap →
    (ReadsNext s 0x048 rest →
      (s.widx.toNat < s.cfg.cap → step s = .next (windowAnswered s rest (digit s.b[r].natAbs s.widx.toNat))) ∧
        (s.cfg.cap ≤ s.widx.toNat → step s = .next (windowMissed s rest))) ∧
      (WritesNext s 0x048 w rest →
        (s.widx.toNat < s.cfg.cap → ∃ v : Int,
          step s = .next { s with inputs := rest, b := s.b.set r.val v r.isLt, widx := steppedIndex s } ∧
            v.natAbs < radix ^ s.cfg.cap ∧ (v < 0 ↔ s.b[r] < 0 ∧ v ≠ 0) ∧
            ∀ k, digit v.natAbs k = if k = s.widx.toNat then w.toNat else digit s.b[r].natAbs k) ∧
          (s.cfg.cap ≤ s.widx.toNat → step s = .next (windowIgnored s rest)))

/-- R61, R32: WMETA of a big register reads its sign and index, and a write sets the sign of a nonzero value only. WMETA
of a bank reads VALID with LEN or K, of a vector L, of the ROM PRIME_COUNT; writes to these and every access to another
space or register number miss. WIDX never moves. -/
def Obligations.WindowMetadata : Prop :=
  ∀ (s : State) (r : BReg) (w : Word) (rest : List Input), s.phase = .idle → r.val = s.wsel.toNat / 2 ^ 8 % 16 →
    (ReadsNext s 0x04C rest →
      (s.wsel.toNat % 8 = 0 → step s = .next (readAnswered s rest
        (BitVec.ofNat 32 ((if s.b[r] < 0 then 2 ^ 31 else 0) + (ndig s.b[r].natAbs - 1))))) ∧
      (∀ k : BankNo, k.val = r.val → s.wsel.toNat % 8 = 1 → step s = .next (readAnswered s rest
        (BitVec.ofNat 32 ((if s.tbl[k].valid = true then 2 ^ 31 else 0) + s.tbl[k].len)))) ∧
      (∀ k : BankNo, k.val = r.val → s.wsel.toNat % 8 = 2 → step s = .next (readAnswered s rest
        (BitVec.ofNat 32 ((if s.tbl[k].valid = true then 2 ^ 31 else 0) + s.tbl[k].k)))) ∧
      (r.val < 4 → s.wsel.toNat % 8 = 3 → step s = .next (readAnswered s rest (BitVec.ofNat 32 (2 * s.cfg.cap)))) ∧
      (s.wsel.toNat % 8 = 4 → step s = .next (readAnswered s rest (BitVec.ofNat 32 s.cfg.primeCount))) ∧
      ((5 ≤ s.wsel.toNat % 8 ∨ ((s.wsel.toNat % 8 = 1 ∨ s.wsel.toNat % 8 = 2) ∧ 2 ≤ r.val) ∨
        (s.wsel.toNat % 8 = 3 ∧ 4 ≤ r.val)) → step s = .next (readRefused s rest))) ∧
      (WritesNext s 0x04C w rest →
        (s.wsel.toNat % 8 = 0 → ∃ v : Int, step s = .next { s with inputs := rest, b := s.b.set r.val v r.isLt } ∧
          v.natAbs = s.b[r].natAbs ∧ (v < 0 ↔ w.getLsbD 31 = true ∧ s.b[r] ≠ 0)) ∧
          (s.wsel.toNat % 8 ≠ 0 → step s = .next (writeRefused s rest)))

/-- R81, R82: SPACE 1 and 2. An invalid bank reads 0 without an error; a valid one its entry's digit inside LEN and CAP;
the modulus its digit inside CAP; everything else misses, and no write acts. -/
def Obligations.WindowReadsBanks : Prop :=
  ∀ (s : State) (k : BankNo) (w : Word) (rest : List Input), s.phase = .idle →
    k.val = s.wsel.toNat / 2 ^ 8 % 16 →
    (s.wsel.toNat % 8 = 1 →
      (ReadsNext s 0x048 rest →
        (s.tbl[k].valid = false → step s = .next (windowAnswered s rest 0)) ∧
          (s.tbl[k].valid = true → s.wsel.toNat / 2 ^ 16 < s.tbl[k].len → s.widx.toNat < s.cfg.cap →
            step s = .next (windowAnswered s rest
              (digit (s.tbl[k].entries.getD (s.wsel.toNat / 2 ^ 16) 0) s.widx.toNat))) ∧
          (s.tbl[k].valid = true → s.tbl[k].len ≤ s.wsel.toNat / 2 ^ 16 ∨ s.cfg.cap ≤ s.widx.toNat →
            step s = .next (windowMissed s rest))) ∧
        (WritesNext s 0x048 w rest → step s = .next (windowIgnored s rest))) ∧
      (s.wsel.toNat % 8 = 2 →
        (ReadsNext s 0x048 rest →
          (s.widx.toNat < s.cfg.cap → step s = .next (windowAnswered s rest (digit s.tbl[k].modulus s.widx.toNat))) ∧
            (s.cfg.cap ≤ s.widx.toNat → step s = .next (windowMissed s rest))) ∧
          (WritesNext s 0x048 w rest → step s = .next (windowIgnored s rest)))

/-- R83, R84, R85: SPACE 3 reads a slot inside L, SPACE 4 a prime inside PRIME_COUNT; outside, and in the reserved spaces
and register numbers, the access misses; no write acts. -/
def Obligations.WindowReadsVectorsAndRom : Prop :=
  ∀ (s : State) (r : BReg) (w : Word) (rest : List Input), s.phase = .idle → r.val = s.wsel.toNat / 2 ^ 8 % 16 →
    (ReadsNext s 0x048 rest →
      (∀ k : VReg, k.val = r.val → s.wsel.toNat % 8 = 3 → s.widx.toNat < 2 * s.cfg.cap →
        step s = .next (windowAnswered s rest (s.rv[k].getD s.widx.toNat 0))) ∧
      (s.wsel.toNat % 8 = 4 → s.widx.toNat < s.cfg.primeCount →
        step s = .next (windowAnswered s rest (s.cfg.primeAt s.widx.toNat))) ∧
      ((s.wsel.toNat % 8 = 3 ∧ r.val < 4 ∧ 2 * s.cfg.cap ≤ s.widx.toNat) ∨
          (s.wsel.toNat % 8 = 4 ∧ s.cfg.primeCount ≤ s.widx.toNat) ∨ 5 ≤ s.wsel.toNat % 8 ∨
          ((s.wsel.toNat % 8 = 1 ∨ s.wsel.toNat % 8 = 2) ∧ 2 ≤ r.val) ∨ (s.wsel.toNat % 8 = 3 ∧ 4 ≤ r.val) →
        step s = .next (windowMissed s rest))) ∧
      (WritesNext s 0x048 w rest → s.wsel.toNat % 8 ≠ 0 → step s = .next (windowIgnored s rest))

/-- R86: every WDATA access of an idle core, in range or not, moves WIDX by AINC's rule and leaves WSEL; a WMETA access
leaves WIDX. -/
def Obligations.WindowAutoIncrement : Prop :=
  ∀ (s t : State) (w : Word) (rest : List Input), s.busy = false → step s = .next t →
    (ReadsNext s 0x048 rest ∨ WritesNext s 0x048 w rest →
      t.widx = (if s.wsel.toNat / 2 ^ 3 % 2 = 1 then BitVec.ofNat 32 ((s.widx.toNat + 1) % 2 ^ 32) else s.widx) ∧
        t.wsel = s.wsel) ∧
      (ReadsNext s 0x04C rest ∨ WritesNext s 0x04C w rest → t.widx = s.widx)

/-- R50, R51, R52, R56, R57, R58, R59: what the plain registers read and store. ARG0, ARG1, RES0, RES1, WSEL and WIDX
answer an idle core's host, and CMD answers it 0; CMDCOUNT and INTEN, bit 0 alone, answer always; WSEL drops bits 7:4 and
15:12; RES and CMDCOUNT writes only set HOSTERR. -/
def Obligations.PlainHostRegisters : Prop :=
  ∀ (s : State) (w : Word) (rest : List Input),
    (s.busy = false →
      (ReadsNext s 0x010 rest → step s = .next (readAnswered s rest 0#32)) ∧
      (ReadsNext s 0x014 rest → step s = .next (readAnswered s rest s.arg0)) ∧
      (ReadsNext s 0x018 rest → step s = .next (readAnswered s rest s.arg1)) ∧
      (ReadsNext s 0x028 rest → step s = .next (readAnswered s rest s.res0)) ∧
      (ReadsNext s 0x02C rest → step s = .next (readAnswered s rest s.res1)) ∧
      (ReadsNext s 0x040 rest → step s = .next (readAnswered s rest s.wsel)) ∧
      (ReadsNext s 0x044 rest → step s = .next (readAnswered s rest s.widx)) ∧
      (WritesNext s 0x014 w rest → step s = .next { s with inputs := rest, arg0 := w }) ∧
      (WritesNext s 0x018 w rest → step s = .next { s with inputs := rest, arg1 := w }) ∧
      (WritesNext s 0x028 w rest ∨ WritesNext s 0x02C w rest → step s = .next (writeRefused s rest)) ∧
      (WritesNext s 0x040 w rest → ∃ v : Word, step s = .next { s with inputs := rest, wsel := v } ∧
        ∀ n, v.getLsbD n = (w.getLsbD n && !decide ((4 ≤ n ∧ n ≤ 7) ∨ (12 ≤ n ∧ n ≤ 15)))) ∧
      (WritesNext s 0x044 w rest → step s = .next { s with inputs := rest, widx := w })) ∧
    (ReadsNext s 0x00C rest → step s = .next (readAnswered s rest s.cmdCount)) ∧
    (WritesNext s 0x00C w rest → step s = .next (writeRefused s rest)) ∧
    (ReadsNext s 0x030 rest → ∃ v : Word, step s = .next (readAnswered s rest v) ∧ v.getLsbD 0 = s.intEn ∧
      ∀ n, 1 ≤ n → v.getLsbD n = false) ∧
    (WritesNext s 0x030 w rest → step s = .next { s with inputs := rest, intEn := w.getLsbD 0 })

/-- R43, R38, R46, R56: no host access but a soft reset changes a flag, RES0, RES1, a bank or a residue vector. -/
def Obligations.HostAccessesKeepResults : Prop :=
  ∀ (s t : State) (addr size : Nat) (w : Word) (rest : List Input), step s = .next t →
    s.inputs = .read addr size :: rest ∨
      (s.inputs = .write addr size w :: rest ∧ ¬(addr = s.cfg.coreBase + 0x01C ∧ size = 4 ∧ w.getLsbD 31 = true)) →
    t.flags = s.flags ∧ t.res0 = s.res0 ∧ t.res1 = s.res1 ∧ t.tbl = s.tbl ∧ t.rv = s.rv ∧ t.cfg = s.cfg

/-- R50: CMDCOUNT goes up by one, modulo 2^32, exactly when a CMD write is accepted; reset alone clears it and nothing else
changes it. The parameters never change. -/
def Obligations.CmdcountCountsAccepts : Prop :=
  ∀ s t : State, step s = .next t →
    t.cfg = s.cfg ∧
    ((∃ w rest, WritesNext s 0x010 w rest ∧ s.busy = false ∧ t.cmdCount.toNat = (s.cmdCount.toNat + 1) % 2 ^ 32) ∨
      (((∃ rest, s.inputs = .rst :: rest) ∨ ∃ w rest, WritesNext s 0x01C w rest ∧ w.getLsbD 31 = true) ∧
        t.cmdCount = 0#32) ∨
      ((¬∃ w rest, WritesNext s 0x010 w rest ∧ s.busy = false) ∧ t.cmdCount = s.cmdCount))

/-- R124, R32, R80, R61: the accesses of `li bN, v` on an idle core leave `v` in `b[N]` and every other big register,
bank, vector, RES and scalar operand as it was, set no HOSTERR, and leave the core idle. Nothing is claimed of what CLR and
the accesses write besides: the flags, CMDCOUNT, STATUS, FAULT, WSEL, WIDX and the read-data lines. CLR's wait is taken in the interleaving
in which the core steps before the read of STATUS (log entry 26). -/
def Obligations.LoadLiteralLoads : Prop :=
  ∀ (s : State) (r : BReg) (v : Int) (rest : List Input), s.phase = .idle → s.cfg.Valid →
    v.natAbs < radix ^ s.cfg.cap → s.inputs = loadLiteral s.cfg r v ++ rest →
    ∃ t : State, core.run (loadLiteral s.cfg r v).length s = .next t ∧ t.b[r] = v ∧ BigKept [r] s t ∧ BanksKept [] s t ∧
      VectorsKept [] s t ∧ ResKept s t ∧ t.arg0 = s.arg0 ∧ t.arg1 = s.arg1 ∧ t.hostErr = s.hostErr ∧ t.phase = .idle ∧
      t.inputs = rest

/-! ### Invariants -/

/-- R31, R37, R42, R54, R55, R58, R63: every step keeps the invariant `State.Sound`. -/
def Obligations.StepKeepsSound : Prop := ∀ s t : State, s.Sound → step s = .next t → t.Sound

/-- R64: the state after reset meets the invariant, for every choice of the parameters, and so does `State.reset`. -/
def Obligations.ResetIsSound : Prop := (∀ c : Config, c.Valid → (State.resetOf c).Sound) ∧ State.reset.Sound

/-- R63, R95, R112, R316: a running command's operands are those of its snapshot, in the model's form (log entry 11);
while it runs, the big registers stay as they were when it was accepted, and the scalar operands stay: every step from such
a state that does not end the command keeps both. -/
def Obligations.StepKeepsOperands : Prop :=
  (∀ (s : State) (j : Job) (r : BReg), s.phase = .run j → s.opBig r = j.snap[r]) ∧
  ∀ s t : State, step s = .next t →
    ((∀ j, s.phase = .run j → j.snap = s.b) → ∀ j, t.phase = .run j → j.snap = t.b) ∧
      ∀ j k, s.phase = .run j → t.phase = .run k →
        t.b = s.b ∧ t.arg0 = s.arg0 ∧ t.arg1 = s.arg1 ∧ k.word = j.word ∧ k.snap = j.snap

/-- R54: at most one of ERR and CANCELLED is 1, in every state a step reaches from one where it holds. -/
def Obligations.StepKeepsOneEnding : Prop :=
  ∀ s t : State, ¬(s.err = true ∧ s.cancelled = true) → step s = .next t → ¬(t.err = true ∧ t.cancelled = true)

/-! ### Endings of commands -/

/-- R314, R315: a core step of any command that ends with a fault records its opcode and a code other than NONE, and
changes nothing but STATUS, FAULT and PHASE. -/
def Obligations.FaultsArePrecise : Prop :=
  ∀ (i : Instr) (s t : State), s.err = false → exec i s = .next t → t.err = true →
    ∃ c : FaultCode, c ≠ .none ∧ Faulted (BitVec.ofNat 8 i.opcode) c s t

/-- R322, R323: a command without safe points is one core step, from every state: it ends, it is not cancelled, and a pending
cancel stays pending. -/
def Obligations.PlainCommandsTakeOneStep : Prop :=
  ∀ (i : Instr) (s : State), hasSafePoints i = false →
    ∃ t, exec i s = .next t ∧ t.phase = .idle ∧ t.done = true ∧ t.cancelled = false ∧
      t.cancelPending = s.cancelPending

/-- R322, R317(c): at every safe point a pending cancel ends the command and changes nothing else; the first step, which
runs the checks, does not poll. -/
def Obligations.SafePointsTakeACancel : Prop :=
  ∀ (i : Instr) (s : State), hasSafePoints i = true → s.cancelPending = true →
    (∀ n, 1 ≤ n → AtSegment n s → ∃ t, exec i s = .next t ∧ Cancelled s t) ∧
      (AtSegment 0 s → ∃ t, exec i s = .next t ∧ t.cancelPending = true ∧
        (MovesOn 1 [] s t ∨ ∃ c, c ≠ .none ∧ Faulted (BitVec.ofNat 8 i.opcode) c s t))

/-! ### Big-register commands -/

/-- R130-R134: NOP writes nothing; CLR, SETONE, MOV and SETU64 write 0, 1, the operand and arg64 with its flags, and
nothing else. -/
def Obligations.RegisterLoads : Prop :=
  ∀ (s : State) (d a : BReg),
    (∃ t, exec .nop s = .next t ∧ Succeeded s t ∧ DataKept s t ∧ ResKept s t ∧ t.flags = s.flags) ∧
      (∃ t, exec (.clr d) s = .next t ∧ WritesBig d 0 s t) ∧
      (∃ t, exec (.setone d) s = .next t ∧ WritesBig d 1 s t) ∧
      (∃ t, exec (.mov d a) s = .next t ∧ WritesBig d (s.opBig a) s t) ∧
      ∃ t, exec (.setu64 d) s = .next t ∧ WritesBig d ((s.arg1.toNat * 2 ^ 32 + s.arg0.toNat : Nat) : Int) s t

/-- R135-R137: GETU64 leaves the low 64 bits of the magnitude in RES and the operand's flags; TEST the flags alone; CMP EQ
and GT alone, from the signed comparison. -/
def Obligations.PredicatesAndCompare : Prop :=
  ∀ (s : State) (a b : BReg),
    (∃ t, exec (.getu64 a) s = .next t ∧ Succeeded s t ∧ DataKept s t ∧ FlagsFrom (s.opBig a) s.flags t.flags ∧
      ResHolds t ((s.opBig a).natAbs % 2 ^ 64)) ∧
      (∃ t, exec (.test a) s = .next t ∧ Succeeded s t ∧ DataKept s t ∧ ResKept s t ∧
        FlagsFrom (s.opBig a) s.flags t.flags) ∧
      ∃ t, exec (.cmp a b) s = .next t ∧ Succeeded s t ∧ DataKept s t ∧ ResKept s t ∧
        (t.flags.eq = true ↔ s.opBig a = s.opBig b) ∧ (t.flags.gt = true ↔ s.opBig b < s.opBig a) ∧
        t.flags = { s.flags with eq := t.flags.eq, gt := t.flags.gt }

/-- R138: SHL multiplies the magnitude by 2^ARG0 and keeps the sign, or is OVERFLOW when that needs more than CAP digits. -/
def Obligations.ShlResult : Prop :=
  ∀ (s : State) (d a : BReg),
    ((s.opBig a).natAbs * 2 ^ s.arg0.toNat < radix ^ s.cfg.cap →
      ∃ t v, exec (.shl d a) s = .next t ∧ WritesBig d v s t ∧ v.natAbs = (s.opBig a).natAbs * 2 ^ s.arg0.toNat ∧
        (v < 0 ↔ s.opBig a < 0)) ∧
      (radix ^ s.cfg.cap ≤ (s.opBig a).natAbs * 2 ^ s.arg0.toNat →
        ∃ t, exec (.shl d a) s = .next t ∧ Faulted 0x08#8 .overflow s t)

/-- R139: SHR divides the magnitude by 2^ARG0, dropping bits, and keeps the sign of a value that is still not zero. -/
def Obligations.ShrResult : Prop :=
  ∀ (s : State) (d a : BReg),
    ∃ t v, exec (.shr d a) s = .next t ∧ WritesBig d v s t ∧ v.natAbs = (s.opBig a).natAbs / 2 ^ s.arg0.toNat ∧
      (v < 0 ↔ s.opBig a < 0 ∧ v ≠ 0)

/-- R140, R141, R190-R193: the exact signed sum, difference, product or square, or OVERFLOW. -/
def Obligations.ExactSumsAndProducts : Prop :=
  ∀ (s : State) (d a b : BReg) (n : Int), n = ((s.arg1.toNat * 2 ^ 32 + s.arg0.toNat : Nat) : Int) →
    ExactOrOverflow 0x0A#8 d (s.opBig a + n) s (exec (.addu64 d a) s) ∧
      ExactOrOverflow 0x0B#8 d (s.opBig a - n) s (exec (.subu64 d a) s) ∧
      ExactOrOverflow 0x10#8 d (s.opBig a + s.opBig b) s (exec (.add d a b) s) ∧
      ExactOrOverflow 0x11#8 d (s.opBig a - s.opBig b) s (exec (.sub d a b) s) ∧
      ExactOrOverflow 0x12#8 d (s.opBig a * s.opBig b) s (exec (.mul d a b) s) ∧
      ExactOrOverflow 0x13#8 d (s.opBig a ^ 2) s (exec (.sqr d a) s)

/-- R142: RNDODD with `n = ARG0` in 1..CAP leaves an odd value of exactly `n` digits whose digits are the words drawn, with
bit 0 of the first and bit 31 of the last forced, whatever the words; another `n` is INVALID_ARGUMENT. That the words are
the free value `draw32` at the counter `draws` is the model's form (log entry 4). -/
def Obligations.RndoddResult : Prop :=
  ∀ (s : State) (d : BReg) (n : Nat), n = s.arg0.toNat →
    (n = 0 ∨ s.cfg.cap < n → ∃ t, exec (.rndodd d) s = .next t ∧ Faulted 0x0C#8 .invalidArgument s t) ∧
      (1 ≤ n → n ≤ s.cfg.cap →
        ∃ (t : State) (v : Nat), exec (.rndodd d) s = .next t ∧ Succeeded s t ∧ t.b[d] = (v : Int) ∧ BigKept [d] s t ∧
          BanksKept [] s t ∧ VectorsKept [] s t ∧ ResKept s t ∧ FlagsFrom (v : Int) s.flags t.flags ∧
          t.draws = s.draws + n ∧ v % 2 = 1 ∧ 2 ^ (32 * n - 1) < v ∧ v < 2 ^ (32 * n) ∧
          ∀ j, j < n → digit v j =
            (Config.draw32 (s.draws + j) ||| (if j = 0 then 1#32 else 0#32) |||
              (if j = n - 1 then 0x80000000#32 else 0#32)).toNat)

/-! ### Division -/

/-- R160: DIV's quotient and remainder, its flags from the remainder, and its two faults in their order. -/
def Obligations.DivResult : Prop :=
  ∀ (s : State) (d a b c : BReg),
    (s.opBig b = 0 → ∃ t, exec (.div d a b c) s = .next t ∧ Faulted 0x18#8 .divideByZero s t) ∧
      (s.opBig b ≠ 0 → s.opBig a < 0 ∨ s.opBig b < 0 →
        ∃ t, exec (.div d a b c) s = .next t ∧ Faulted 0x18#8 .invalidArgument s t) ∧
      (d ≠ c → 0 ≤ s.opBig a → 0 < s.opBig b →
        ∃ (t : State) (q r : Int), exec (.div d a b c) s = .next t ∧ Succeeded s t ∧ t.b[d] = q ∧ t.b[c] = r ∧
          s.opBig a = q * s.opBig b + r ∧ 0 ≤ r ∧ r < s.opBig b ∧ FlagsFrom r s.flags t.flags ∧ BigKept [d, c] s t ∧
          BanksKept [] s t ∧ VectorsKept [] s t ∧ ResKept s t ∧ t.draws = s.draws)

/-- R161, R162, R163: SDIV, REM32 and REM64: the remainder in RES and in the flags, SDIV's quotient in `b[d]` and no other
register written, and their faults in their order. -/
def Obligations.ShortDivisionResults : Prop :=
  ∀ (s : State) (d a : BReg) (m n : Nat), m = s.arg0.toNat → n = s.arg1.toNat * 2 ^ 32 + s.arg0.toNat →
    (m = 0 → (∃ t, exec (.sdiv d a) s = .next t ∧ Faulted 0x19#8 .divideByZero s t) ∧
      ∃ t, exec (.rem32 a) s = .next t ∧ Faulted 0x1A#8 .divideByZero s t) ∧
    (n = 0 → ∃ t, exec (.rem64 a) s = .next t ∧ Faulted 0x1B#8 .divideByZero s t) ∧
    (m ≠ 0 → s.opBig a < 0 → (∃ t, exec (.sdiv d a) s = .next t ∧ Faulted 0x19#8 .invalidArgument s t) ∧
      ∃ t, exec (.rem32 a) s = .next t ∧ Faulted 0x1A#8 .invalidArgument s t) ∧
    (n ≠ 0 → s.opBig a < 0 → ∃ t, exec (.rem64 a) s = .next t ∧ Faulted 0x1B#8 .invalidArgument s t) ∧
    (m ≠ 0 → 0 ≤ s.opBig a →
      (∃ (t : State) (q : Int) (r : Nat), exec (.sdiv d a) s = .next t ∧ Succeeded s t ∧ t.b[d] = q ∧
        s.opBig a = q * m + r ∧ r < m ∧ ResHolds t r ∧ FlagsFrom r s.flags t.flags ∧ BigKept [d] s t ∧
        BanksKept [] s t ∧ VectorsKept [] s t ∧ t.draws = s.draws) ∧
      ∃ t, exec (.rem32 a) s = .next t ∧ Succeeded s t ∧ DataKept s t ∧ ResHolds t ((s.opBig a).toNat % m) ∧
        FlagsFrom ((s.opBig a).toNat % m : Nat) s.flags t.flags) ∧
    (n ≠ 0 → 0 ≤ s.opBig a →
      ∃ t, exec (.rem64 a) s = .next t ∧ Succeeded s t ∧ DataKept s t ∧ ResHolds t ((s.opBig a).toNat % n) ∧
        FlagsFrom ((s.opBig a).toNat % n : Nat) s.flags t.flags)

/-! ### Number theory -/

/-- R200: GCD gives the greatest common divisor, and refuses a zero or negative operand. -/
def Obligations.GcdResult : Prop :=
  ∀ (s : State) (d a b : BReg),
    (s.opBig a ≤ 0 ∨ s.opBig b ≤ 0 → ∃ t, exec (.gcd d a b) s = .next t ∧ Faulted 0x20#8 .invalidArgument s t) ∧
      (0 < s.opBig a → 0 < s.opBig b →
        ∃ (t : State) (g : Int), exec (.gcd d a b) s = .next t ∧ WritesBig d g s t ∧ 1 ≤ g ∧ g ∣ s.opBig a ∧
          g ∣ s.opBig b ∧ ∀ k : Int, k ∣ s.opBig a → k ∣ s.opBig b → k ∣ g)

/-- R201: INV gives the unique inverse in [1, m-1], NO_INVERSE exactly when the operands are not coprime, and refuses a zero
or negative operand and modulus 1. INTERNAL_INCONSISTENCY never happens. -/
def Obligations.InvResult : Prop :=
  ∀ (s : State) (d a b : BReg) (x m : Int), x = s.opBig a → m = s.opBig b →
    (x ≤ 0 ∨ m ≤ 1 → ∃ t, exec (.inv d a b) s = .next t ∧ Faulted 0x21#8 .invalidArgument s t) ∧
      (1 ≤ x → 2 ≤ m → Int.gcd x m = 1 →
        ∃ (t : State) (y : Int), exec (.inv d a b) s = .next t ∧ WritesBig d y s t ∧ 1 ≤ y ∧ y < m ∧ x * y % m = 1 ∧
          ∀ z : Int, 1 ≤ z → z < m → x * z % m = 1 → z = y) ∧
      (1 ≤ x → 2 ≤ m → Int.gcd x m ≠ 1 → ∃ t, exec (.inv d a b) s = .next t ∧ Faulted 0x21#8 .noInverse s t)

/-- R202: INVSE gives the inverse of the factor ARG0 modulo M, in [1, M-1], NO_INVERSE exactly when they are not coprime, and
refuses M ≤ 1 and a factor outside 2..999999. -/
def Obligations.InvseResult : Prop :=
  ∀ (s : State) (d a : BReg) (f : Nat) (m : Int), f = s.arg0.toNat → m = s.opBig a →
    (m ≤ 1 ∨ f < 2 ∨ 1000000 ≤ f → ∃ t, exec (.invse d a) s = .next t ∧ Faulted 0x22#8 .invalidArgument s t) ∧
      (2 ≤ m → 2 ≤ f → f < 1000000 → Int.gcd f m = 1 →
        ∃ (t : State) (r : Int), exec (.invse d a) s = .next t ∧ WritesBig d r s t ∧ 1 ≤ r ∧ r < m ∧ f * r % m = 1) ∧
      (2 ≤ m → 2 ≤ f → f < 1000000 → Int.gcd f m ≠ 1 →
        ∃ t, exec (.invse d a) s = .next t ∧ Faulted 0x22#8 .noInverse s t)

/-- R203: SMALLFACT finds the first ROM prime that divides the operand, or none; it writes RES and FOUND only. -/
def Obligations.SmallfactResult : Prop :=
  ∀ (s : State) (a : BReg), s.cfg.Valid →
    (s.opBig a < 0 → ∃ t, exec (.smallfact a) s = .next t ∧ Faulted 0x23#8 .invalidArgument s t) ∧
      (0 ≤ s.opBig a →
        ∃ (t : State) (f : Nat), exec (.smallfact a) s = .next t ∧ Succeeded s t ∧ DataKept s t ∧
          t.res0 = BitVec.ofNat 32 f ∧ t.res1 = 0#32 ∧ t.flags = { s.flags with found := decide (f ≠ 0) } ∧
          ((f = 0 ∧ ∀ i, i < s.cfg.primeCount → ¬((s.cfg.primeAt i : Int) ∣ s.opBig a)) ∨
            ∃ i, i < s.cfg.primeCount ∧ f = s.cfg.primeAt i ∧ (f : Int) ∣ s.opBig a ∧ f ≠ 0 ∧
              ∀ k, k < i → ¬((s.cfg.primeAt k : Int) ∣ s.opBig a)))

/-- R204: ISQRT gives the floor of the square root and EXACT, and refuses a negative operand. -/
def Obligations.IsqrtResult : Prop :=
  ∀ (s : State) (d a : BReg),
    (s.opBig a < 0 → ∃ t, exec (.isqrt d a) s = .next t ∧ Faulted 0x24#8 .invalidArgument s t) ∧
      (0 ≤ s.opBig a →
        ∃ (t : State) (r : Nat), exec (.isqrt d a) s = .next t ∧ Succeeded s t ∧ t.b[d] = (r : Int) ∧
          (r : Int) * r ≤ s.opBig a ∧ s.opBig a < ((r : Int) + 1) * (r + 1) ∧
          FlagsFrom (r : Int) { s.flags with exact := t.flags.exact } t.flags ∧
          (t.flags.exact = true ↔ (r : Int) * r = s.opBig a) ∧ BigKept [d] s t ∧ BanksKept [] s t ∧
          VectorsKept [] s t ∧ ResKept s t ∧ t.draws = s.draws)

/-! ### Tables, modular exponentiation, the Fermat sequencer -/

/-- R250, R251, R253: TBLBUILD writes the whole bank from the modulus and nothing else; its faults in their order. -/
def Obligations.TblbuildResult : Prop :=
  ∀ (s : State) (a : BReg) (k : BankNo) (m : Nat),
    (s.opBig a = 0 → ∃ t, exec (.tblbuild a k) s = .next t ∧ Faulted 0x30#8 .divideByZero s t) ∧
      (s.opBig a < 0 → ∃ t, exec (.tblbuild a k) s = .next t ∧ Faulted 0x30#8 .invalidArgument s t) ∧
      (s.opBig a = (m : Int) → 1 ≤ m → s.cfg.cap < 2 * ndig m + 10 →
        ∃ t, exec (.tblbuild a k) s = .next t ∧ Faulted 0x30#8 .overflow s t) ∧
      (s.opBig a = (m : Int) → 1 ≤ m → 2 * ndig m + 10 ≤ s.cfg.cap →
        ∃ t, exec (.tblbuild a k) s = .next t ∧ Succeeded s t ∧ BigKept [] s t ∧ BanksKept [k] s t ∧
          VectorsKept [] s t ∧ ResKept s t ∧ t.flags = s.flags ∧ t.draws = s.draws ∧ t.tbl[k].valid = true ∧
          t.tbl[k].modulus = m ∧ t.tbl[k].k = ndig m ∧ t.tbl[k].len = 2 * ndig m + 10 ∧
          t.tbl[k].entries.length = 2 * ndig m + 10 ∧
          ∀ i, i < 2 * ndig m + 10 → t.tbl[k].entries[i]? = some (2 ^ (32 * i) % m))

/-- R252, R254: REDUCE with the table of `m`: the digit sum of R252, congruent to the operand, at most `k + 2` digits, and
unchanged when below `m`. Its faults in their order. -/
def Obligations.ReduceResult : Prop :=
  ∀ (s : State) (d a : BReg) (k : BankNo),
    (s.opBig a < 0 → ∃ t, exec (.reduce d a k) s = .next t ∧ Faulted 0x31#8 .invalidArgument s t) ∧
      (0 ≤ s.opBig a → s.tbl[k].valid = false →
        ∃ t, exec (.reduce d a k) s = .next t ∧ Faulted 0x31#8 .staleTable s t) ∧
      (0 ≤ s.opBig a → s.tbl[k].valid = true → s.tbl[k].len < ndig (s.opBig a).toNat →
        ∃ t, exec (.reduce d a k) s = .next t ∧ Faulted 0x31#8 .tableRange s t) ∧
      ∀ v m : Nat, s.cfg.Valid → s.opBig a = (v : Int) → 1 ≤ m → 2 * ndig m + 10 ≤ s.cfg.cap →
        s.tbl[k] = Bank.build m → ndig v ≤ 2 * ndig m + 10 →
        ∃ (t : State) (y : Nat), exec (.reduce d a k) s = .next t ∧ WritesBig d y s t ∧ y % m = v % m ∧
          y < radix ^ (ndig m + 2) ∧ (v < m → y = v) ∧
          y = if ndig v < ndig m then v
            else v % radix ^ (ndig m - 1) +
              ∑ i ∈ Finset.Ico (ndig m - 1) (ndig v), digit v i * (radix ^ i % m)

/-- R311, R313 and the checks of R230, R235, R238, R290: with the segment at its start, a failing check ends the command with
its fault, the first in the rule's order, and nothing is written. -/
def Obligations.CheckPhaseFaultsInOrder : Prop :=
  ∀ (s : State) (d a b c : BReg) (k : BankNo) (g : KeyGroup) (u : Use), AtSegment 0 s →
    (let m := s.opBig c
     let i := Instr.modexp d a b c k u
     (m = 0 → ∃ t, exec i s = .next t ∧ Faulted 0x28#8 .divideByZero s t) ∧
      (m ≠ 0 → s.opBig a < 0 ∨ s.opBig b < 0 ∨ m < 0 → ∃ t, exec i s = .next t ∧ Faulted 0x28#8 .invalidArgument s t) ∧
      (0 < m → 0 ≤ s.opBig a → 0 ≤ s.opBig b → u = .reuse →
        s.tbl[k].valid = false ∨ (s.tbl[k].modulus : Int) ≠ m →
        ∃ t, exec i s = .next t ∧ Faulted 0x28#8 .staleTable s t) ∧
      (0 < m → 0 ≤ s.opBig a → 0 ≤ s.opBig b → u = .fresh → s.cfg.cap < 2 * ndig m.toNat + 10 →
        ∃ t, exec i s = .next t ∧ Faulted 0x28#8 .overflow s t)) ∧
    (let m := s.opBig a
     (m < 2 → (∃ t, exec (.fermat a k) s = .next t ∧ Faulted 0x29#8 .invalidArgument s t) ∧
        ∃ t, exec (.fermat1 a k) s = .next t ∧ Faulted 0x2A#8 .invalidArgument s t) ∧
      (2 ≤ m → s.cfg.primeCount < s.arg0.toNat →
        ∃ t, exec (.fermat a k) s = .next t ∧ Faulted 0x29#8 .invalidArgument s t) ∧
      (2 ≤ m → s.cfg.cap < 2 * ndig m.toNat + 10 →
        (s.arg0.toNat ≤ s.cfg.primeCount → ∃ t, exec (.fermat a k) s = .next t ∧ Faulted 0x29#8 .overflow s t) ∧
          ∃ t, exec (.fermat1 a k) s = .next t ∧ Faulted 0x2A#8 .overflow s t)) ∧
    ∀ x p q dP dQ qInv : Int, KeyAt s a g x p q dP dQ qInv →
     (let i := Instr.crt d a g u
     let neg := x < 0 ∨ p < 0 ∨ q < 0 ∨ dP < 0 ∨ dQ < 0 ∨ qInv < 0
     (p = 0 ∨ q = 0 → ∃ t, exec i s = .next t ∧ Faulted 0x40#8 .divideByZero s t) ∧
      (p ≠ 0 → q ≠ 0 → neg → ∃ t, exec i s = .next t ∧ Faulted 0x40#8 .invalidArgument s t) ∧
      (p ≠ 0 → q ≠ 0 → ¬neg → u = .reuse →
        s.tbl[(0 : BankNo)].valid = false ∨ (s.tbl[(0 : BankNo)].modulus : Int) ≠ p ∨
          s.tbl[(1 : BankNo)].valid = false ∨ (s.tbl[(1 : BankNo)].modulus : Int) ≠ q →
        ∃ t, exec i s = .next t ∧ Faulted 0x40#8 .staleTable s t) ∧
      (p ≠ 0 → q ≠ 0 → ¬neg → u = .fresh →
        s.cfg.cap < 2 * ndig p.toNat + 10 ∨ s.cfg.cap < 2 * ndig q.toNat + 10 →
        ∃ t, exec i s = .next t ∧ Faulted 0x40#8 .overflow s t))

/-- R230, R232, R253: a MODEXP that passes its checks and is not cancelled runs in three core steps, builds the table of
the modulus when fresh, uses it as it stands when it already is that table, and gives v^e mod m (1 for e = 0). -/
def Obligations.ModexpCompletes : Prop :=
  ∀ (s : State) (d a b c : BReg) (k : BankNo) (u : Use) (v e m : Nat), AtSegment 0 s → s.cancelPending = false →
    s.cfg.Valid → s.opBig a = (v : Int) → s.opBig b = (e : Int) → s.opBig c = (m : Int) → 1 ≤ m →
    2 * ndig m + 10 ≤ s.cfg.cap → (u = .reuse → s.tbl[k] = Bank.build m) →
    ∃ s1 s2 s3 : State, exec (.modexp d a b c k u) s = .next s1 ∧ MovesOn 1 [] s s1 ∧
      exec (.modexp d a b c k u) s1 = .next s2 ∧ MovesOn 2 [k] s1 s2 ∧ s2.tbl[k] = Bank.build m ∧
      exec (.modexp d a b c k u) s2 = .next s3 ∧ WritesBig d (powerMod v e m) s2 s3

/-- R235, R236: one round. At the safe point after round `j`, with the candidate's table in the bank and no cancel pending,
FERMAT ends with the base as witness when base^(c-1) mod c is not 1, ends with PRIME = 1 after the last round, and
otherwise goes on to the next round. That this also holds for an even candidate, by R235's pseudocode and against its corner
case, is the model's choice (log entry 27). -/
def Obligations.FermatRound : Prop :=
  ∀ (s : State) (a : BReg) (k : BankNo) (c j base : Nat), AtSegment (3 + 2 * j) s → s.cancelPending = false →
    s.cfg.Valid → s.opBig a = (c : Int) → 2 ≤ c → 2 * ndig c + 10 ≤ s.cfg.cap → s.tbl[k] = Bank.build c →
    base = s.cfg.primeAt (s.cfg.primeCount - 1 - j) →
    ∃ t, exec (.fermat a k) s = .next t ∧ DataKept s t ∧
      (base ^ (c - 1) % c ≠ 1 → Succeeded s t ∧ Verdict false base s t) ∧
      (base ^ (c - 1) % c = 1 → s.arg0.toNat ≤ j + 1 → Succeeded s t ∧ Verdict true 0 s t) ∧
      (base ^ (c - 1) % c = 1 → j + 1 < s.arg0.toNat → MovesOn (4 + 2 * j) [] s t)

/-- R235, R236, R324: a whole FERMAT of `n = ARG0` rounds that passes its checks and is not cancelled ends within `2n + 2`
core steps. PRIME says that every base passed; otherwise RES0 is the first base that did not. The bank holds the
candidate's table, and nothing else is written. That this also holds for an even candidate, by R235's pseudocode and against
its corner case, is the model's choice (log entry 27). -/
def Obligations.FermatCompletes : Prop :=
  ∀ (s : State) (a : BReg) (k : BankNo) (c n : Nat), AtSegment 0 s → s.cancelPending = false → s.cfg.Valid →
    n = s.arg0.toNat → n ≤ s.cfg.primeCount → s.opBig a = (c : Int) → 2 ≤ c → 2 * ndig c + 10 ≤ s.cfg.cap →
    ∃ t, runCommand (.fermat a k) (2 * n + 2) s = .next t ∧ Succeeded s t ∧ t.tbl[k] = Bank.build c ∧
      BigKept [] s t ∧ BanksKept [k] s t ∧ VectorsKept [] s t ∧ t.draws = s.draws ∧
      ((∀ j, j < n → s.cfg.primeAt (s.cfg.primeCount - 1 - j) ^ (c - 1) % c = 1) → Verdict true 0 s t) ∧
      ∀ j, j < n → s.cfg.primeAt (s.cfg.primeCount - 1 - j) ^ (c - 1) % c ≠ 1 →
        (∀ i, i < j → s.cfg.primeAt (s.cfg.primeCount - 1 - i) ^ (c - 1) % c = 1) →
        Verdict false (s.cfg.primeAt (s.cfg.primeCount - 1 - j)) s t

/-- R237: a prime candidate that is none of the bases used passes, and one that equals a base used fails. -/
def Obligations.FermatVerdictOnPrimes : Prop :=
  ∀ (s : State) (a : BReg) (k : BankNo) (c n : Nat), AtSegment 0 s → s.cancelPending = false → s.cfg.Valid →
    n = s.arg0.toNat → n ≤ s.cfg.primeCount → s.opBig a = (c : Int) → Nat.Prime c → 2 * ndig c + 10 ≤ s.cfg.cap →
    ∃ t, runCommand (.fermat a k) (2 * n + 2) s = .next t ∧ Succeeded s t ∧
      (t.flags.prime = true ↔ ∀ j, j < n → s.cfg.primeAt (s.cfg.primeCount - 1 - j) ≠ c)

/-- R238: FERMAT1, in its four core steps: the table, PRIME exactly when base^(c-1) mod c = 1 for the base ARG0, and RES0
the base of a failed test. -/
def Obligations.Fermat1Completes : Prop :=
  ∀ (s : State) (a : BReg) (k : BankNo) (c : Nat), AtSegment 0 s → s.cancelPending = false → s.cfg.Valid →
    s.opBig a = (c : Int) → 2 ≤ c → 2 * ndig c + 10 ≤ s.cfg.cap →
    ∃ s1 s2 s3 t : State, exec (.fermat1 a k) s = .next s1 ∧ MovesOn 1 [] s s1 ∧
      exec (.fermat1 a k) s1 = .next s2 ∧ MovesOn 2 [k] s1 s2 ∧ s2.tbl[k] = Bank.build c ∧
      exec (.fermat1 a k) s2 = .next s3 ∧ MovesOn 3 [] s2 s3 ∧
      exec (.fermat1 a k) s3 = .next t ∧ Succeeded s3 t ∧ DataKept s3 t ∧
      (s.arg0.toNat ^ (c - 1) % c = 1 → Verdict true 0 s3 t) ∧
      (s.arg0.toNat ^ (c - 1) % c ≠ 1 → Verdict false s.arg0.toNat s3 t)

/-! ### Residue vectors -/

/-- R270-R273: RVFROM, RVADD, RVSUB and RVMUL write, in every slot of `r[d]`, what the rule gives for the slot's prime `p`
from the slots `x`, `y` of the operands, and nothing else; RVFROM refuses a negative operand. The operands' slots are
below their primes (R42). -/
def Obligations.VectorResults : Prop :=
  ∀ (s : State) (d a b : VReg) (n : BReg), s.cfg.Valid → slotsBelow s.rv[a] s.cfg.slotPrimes = true →
    slotsBelow s.rv[b] s.cfg.slotPrimes = true →
    let Writes := fun (t : State) (f : (p x y : Int) → Int) =>
      Succeeded s t ∧ BigKept [] s t ∧ BanksKept [] s t ∧ VectorsKept [d] s t ∧ ResKept s t ∧ t.flags = s.flags ∧
        t.draws = s.draws ∧ t.rv[d].length = 2 * s.cfg.cap ∧
        ∀ i, i < 2 * s.cfg.cap → ((t.rv[d].getD i 0 : Nat) : Int) =
          f (s.cfg.primeAt i : Nat) (s.rv[a].getD i 0 : Nat) (s.rv[b].getD i 0 : Nat)
    (0 ≤ s.opBig n → ∃ t, exec (.rvfrom d n) s = .next t ∧ Writes t (fun p _ _ => s.opBig n % p)) ∧
      (s.opBig n < 0 → ∃ t, exec (.rvfrom d n) s = .next t ∧ Faulted 0x38#8 .invalidArgument s t) ∧
      (∃ t, exec (.rvadd d a b) s = .next t ∧ Writes t (fun p x y => if p ≤ x + y then x + y - p else x + y)) ∧
      (∃ t, exec (.rvsub d a b) s = .next t ∧ Writes t (fun p x y => if y ≤ x then x - y else x - y + p)) ∧
      ∃ t, exec (.rvmul d a b) s = .next t ∧ Writes t (fun p x y => x * y % p)

/-- R274: the vector operations on the residues of `x` and `y` give the residues of the sum, the product and, for `y ≤ x`,
the difference, however large these are. -/
def Obligations.VectorHomomorphism : Prop :=
  ∀ (c : Config) (x y : Nat), c.Valid →
    slotwise slotAdd c.slotPrimes (residues c.slotPrimes x) (residues c.slotPrimes y) = residues c.slotPrimes (x + y) ∧
      slotwise slotMul c.slotPrimes (residues c.slotPrimes x) (residues c.slotPrimes y) = residues c.slotPrimes (x * y) ∧
      (y ≤ x → slotwise slotSub c.slotPrimes (residues c.slotPrimes x) (residues c.slotPrimes y) =
        residues c.slotPrimes (x - y))

/-! ### CRT -/

/-- R290, R291: a CRT that passes its checks and is not cancelled runs in four core steps, builds both tables when fresh,
and gives m2 + h·Q with h the floored remainder of qInv·(m1 - m2) modulo P. -/
def Obligations.CrtCompletes : Prop :=
  ∀ (s : State) (d a : BReg) (g : KeyGroup) (u : Use) (c p q dP dQ qInv : Nat), AtSegment 0 s →
    s.cancelPending = false → s.cfg.Valid → KeyAt s a g c p q dP dQ qInv → 1 ≤ p → 1 ≤ q →
    2 * ndig p + 10 ≤ s.cfg.cap → 2 * ndig q + 10 ≤ s.cfg.cap →
    (u = .reuse → s.tbl[(0 : BankNo)] = Bank.build p ∧ s.tbl[(1 : BankNo)] = Bank.build q) →
    ∃ s1 s2 s3 t : State, exec (.crt d a g u) s = .next s1 ∧ MovesOn 1 [] s s1 ∧
      exec (.crt d a g u) s1 = .next s2 ∧ MovesOn 2 [0, 1] s1 s2 ∧ s2.tbl[(0 : BankNo)] = Bank.build p ∧
      s2.tbl[(1 : BankNo)] = Bank.build q ∧ exec (.crt d a g u) s2 = .next s3 ∧ MovesOn 3 [] s2 s3 ∧
      exec (.crt d a g u) s3 = .next t ∧
      WritesBig d ((powerMod c dQ q : Int) +
        (qInv * ((powerMod c dP p : Int) - (powerMod c dQ q : Int)) % p) * q) s3 t

/-- R293: for distinct odd primes P and Q and a consistent key, CRT gives c^d mod P·Q. The rule says "distinct primes"; for
P = 2 or Q = 2 a reduced exponent can be 0 and R230's "exponent 0 gives 1" then breaks the law, so 2 is left out here. -/
def Obligations.CrtDecrypts : Prop :=
  ∀ (s : State) (rd a : BReg) (g : KeyGroup) (u : Use) (c p q e d qInv : Nat), AtSegment 0 s →
    s.cancelPending = false → s.cfg.Valid → Nat.Prime p → Nat.Prime q → p ≠ q → 2 < p → 2 < q →
    e * d % ((p - 1) * (q - 1)) = 1 → qInv < p → qInv * q % p = 1 → c < p * q →
    KeyAt s a g c p q ↑(d % (p - 1)) ↑(d % (q - 1)) qInv →
    2 * ndig p + 10 ≤ s.cfg.cap → 2 * ndig q + 10 ≤ s.cfg.cap →
    (u = .reuse → s.tbl[(0 : BankNo)] = Bank.build p ∧ s.tbl[(1 : BankNo)] = Bank.build q) →
    ∃ t, runCommand (.crt rd a g u) 4 s = .next t ∧ Succeeded s t ∧ t.b[rd] = ((c ^ d % (p * q) : Nat) : Int)

/-! ### The ROM and the datapaths -/

/-- R40: entry `i` of the ROM is the `(i+1)`-th prime, for every ROM length; no step changes the ROM. The model
computes the ROM from this definition (log entry 21). -/
def Obligations.RomHoldsThePrimes : Prop :=
  (∀ c : Config, c.rom.length = c.primeCount ∧ ∀ i, i < c.primeCount → c.primeAt i = Nat.nth Nat.Prime i) ∧
    ∀ s t : State, step s = .next t → t.cfg.rom = s.cfg.rom

/-- R177: the divider's datapath, its short division and its remainder-only fold compute the exact quotient and remainder.
That the datapath stands beside the commands, which never call it, is the model's choice (log entry 18). -/
def Obligations.DividerComputesDivision : Prop :=
  ∀ a d : Nat, 0 < d →
    datapathDivide a d = (a / d, a % d) ∧ shortDivide a d = (a / d, a % d) ∧ remainderOnly a d = a % d ∧
      (2 ^ 32 ≤ d → d < a → longDivide a d = (a / d, a % d))

/-- R195, R205, R200, R291: the multiplier, the digit-by-digit root, Euclid's loop and the Garner schedule compute what
their commands' results are. That these datapaths stand beside the commands, which never call them, and that the root's has
no trial upper bound, where R205 has one, are the model's choices (log entry 18). -/
def Obligations.OtherDatapathsAreExact : Prop :=
  (∀ x y : Nat, schoolbookProduct x y = x * y) ∧
    (∀ a : Nat, datapathRoot a * datapathRoot a ≤ a ∧ a < (datapathRoot a + 1) * (datapathRoot a + 1)) ∧
    (∀ x y : Nat, euclidGcd x y = Nat.gcd x y) ∧
    ∀ (n : Nat) (qInv p m1 m2 : Int), 0 < p → garnerStep n qInv p m1 m2 = qInv * (m1 - m2) % p
end

