-- ==== Sys2Proof/Laws/Decode.lean ====
section
/-! SUPPORT. A packed word gives its fields back: the field positions of R101 do not overlap. -/

namespace Sys2Proof

theorem pack_toNat {op d a b c t u : Nat} (ho : op < 256) (hd : d < 16) (ha : a < 16) (hb : b < 16) (hc : c < 16)
    (ht : t < 2) (hu : u < 2) :
    (pack op d a b c t u).toNat =
      op * 2 ^ 24 + d * 2 ^ 20 + a * 2 ^ 16 + b * 2 ^ 12 + c * 2 ^ 8 + t * 2 ^ 7 + u * 2 ^ 6 := by
  unfold pack
  rw [BitVec.toNat_ofNat]
  exact Nat.mod_eq_of_lt (by omega)

/-- The fields of a packed word are the numbers it was packed from, and RSV is 0. -/
theorem fieldsOf_pack {op : Nat} (ho : op < 256) (d a b c : Fin 16) (t u : Fin 2) :
    fieldsOf (pack op d a b c t u) = { op := op, d := d, a := a, b := b, c := c, t := t, u := u, rsv := 0 } := by
  have h := pack_toNat ho d.isLt a.isLt b.isLt c.isLt t.isLt u.isLt
  have hd := d.isLt
  have ha := a.isLt
  have hb := b.isLt
  have hc := c.isLt
  have ht := t.isLt
  have hu := u.isLt
  unfold fieldsOf
  simp only [h, Fields.mk.injEq, Fin.ext_iff]
  refine ⟨?_, ?_, ?_, ?_, ?_, ?_, ?_, ?_⟩ <;> omega

theorem opcodeByte_pack {op d a b c t u : Nat} (ho : op < 256) (hd : d < 16) (ha : a < 16) (hb : b < 16) (hc : c < 16)
    (ht : t < 2) (hu : u < 2) : opcodeByte (pack op d a b c t u) = BitVec.ofNat 8 op := by
  unfold opcodeByte
  rw [pack_toNat ho hd ha hb hc ht hu]
  congr 1
  omega

theorem Use.bit_lt (u : Use) : u.bit < 2 := by cases u <;> decide

end Sys2Proof
end

