-- ==== Sys2Proof/Laws/Numbers.lean ====
section
/-! SUPPORT. The small facts of the number notation of R10: bit lengths, digit counts, single digits. -/

namespace Sys2Proof.Machine

theorem radix_eq : radix = 2 ^ 32 := rfl

theorem radix_pos : 0 < radix := by decide

theorem radix_pow (n : Nat) : radix ^ n = 2 ^ (32 * n) := by rw [radix_eq, ← Nat.pow_mul]

theorem lt_two_pow_bitlen (e : Nat) : e < 2 ^ bitlen e := by
  unfold bitlen
  split
  · next h => simp [h]
  · exact Nat.lt_log2_self

theorem two_pow_bitlen_le {e : Nat} (h : e ≠ 0) : 2 ^ (bitlen e - 1) ≤ e := by
  simpa [bitlen, h] using Nat.log2_self_le h

/-- A nonzero number has more than `n` bits exactly when it is at least `2^n`. -/
theorem lt_bitlen_iff {e : Nat} (h : e ≠ 0) (n : Nat) : n < bitlen e ↔ 2 ^ n ≤ e := by
  constructor
  · intro hn
    exact (Nat.pow_le_pow_right (by decide) (by omega)).trans (two_pow_bitlen_le h)
  · intro hn
    by_contra hc
    have := (lt_two_pow_bitlen e).trans_le (Nat.pow_le_pow_right (n := 2) (by decide) (not_lt.mp hc))
    omega

theorem ndig_pos (x : Nat) : 1 ≤ ndig x := by
  unfold ndig
  split <;> omega

theorem lt_radix_pow_ndig (x : Nat) : x < radix ^ ndig x := by
  unfold ndig
  split
  · next h => simp [h, radix_eq]
  · rw [radix_pow]
    exact Nat.lt_log2_self.trans_le (Nat.pow_le_pow_right (by decide) (by omega))

theorem radix_pow_le_of_ndig {x : Nat} (h : x ≠ 0) : radix ^ (ndig x - 1) ≤ x := by
  rw [radix_pow]
  simp only [ndig, h, if_false]
  exact (Nat.pow_le_pow_right (by decide) (by omega)).trans (Nat.log2_self_le h)

/-- `x` has at most `n ≥ 1` digits exactly when it is below `B^n`. -/
theorem ndig_le_iff {n : Nat} (hn : 1 ≤ n) (x : Nat) : ndig x ≤ n ↔ x < radix ^ n := by
  constructor
  · intro h
    exact (lt_radix_pow_ndig x).trans_le (Nat.pow_le_pow_right radix_pos h)
  · intro h
    by_contra hc
    by_cases hx : x = 0
    · simp [hx, ndig] at hc; omega
    · have := (Nat.pow_le_pow_right radix_pos (show n ≤ ndig x - 1 by omega)).trans (radix_pow_le_of_ndig hx)
      omega

theorem digit_lt (x i : Nat) : digit x i < radix := Nat.mod_lt _ radix_pos

end Sys2Proof.Machine
end

