-- ==== Sys2Proof/Laws/State.lean ====
section
/-! SUPPORT. One lemma per field per update of State, each true by rfl, so that no proof unfolds a record update; and what
reading a register, bank or vector gives after a write to it or to another. -/

namespace Sys2Proof.Machine

variable (s : State)

/-! ### setBig -/

@[simp] theorem State.setBig_cfg (r : BReg) (v : Int) : (s.setBig r v).cfg = s.cfg := rfl
@[simp] theorem State.setBig_b (r : BReg) (v : Int) : (s.setBig r v).b = s.b.set r.val v r.isLt := rfl
@[simp] theorem State.setBig_tbl (r : BReg) (v : Int) : (s.setBig r v).tbl = s.tbl := rfl
@[simp] theorem State.setBig_rv (r : BReg) (v : Int) : (s.setBig r v).rv = s.rv := rfl
@[simp] theorem State.setBig_arg0 (r : BReg) (v : Int) : (s.setBig r v).arg0 = s.arg0 := rfl
@[simp] theorem State.setBig_arg1 (r : BReg) (v : Int) : (s.setBig r v).arg1 = s.arg1 := rfl
@[simp] theorem State.setBig_res0 (r : BReg) (v : Int) : (s.setBig r v).res0 = s.res0 := rfl
@[simp] theorem State.setBig_res1 (r : BReg) (v : Int) : (s.setBig r v).res1 = s.res1 := rfl
@[simp] theorem State.setBig_flags (r : BReg) (v : Int) : (s.setBig r v).flags = s.flags := rfl
@[simp] theorem State.setBig_cmdCount (r : BReg) (v : Int) : (s.setBig r v).cmdCount = s.cmdCount := rfl
@[simp] theorem State.setBig_done (r : BReg) (v : Int) : (s.setBig r v).done = s.done := rfl
@[simp] theorem State.setBig_err (r : BReg) (v : Int) : (s.setBig r v).err = s.err := rfl
@[simp] theorem State.setBig_cancelled (r : BReg) (v : Int) : (s.setBig r v).cancelled = s.cancelled := rfl
@[simp] theorem State.setBig_hostErr (r : BReg) (v : Int) : (s.setBig r v).hostErr = s.hostErr := rfl
@[simp] theorem State.setBig_cancelPending (r : BReg) (v : Int) : (s.setBig r v).cancelPending = s.cancelPending := rfl
@[simp] theorem State.setBig_faultCode (r : BReg) (v : Int) : (s.setBig r v).faultCode = s.faultCode := rfl
@[simp] theorem State.setBig_faultOpc (r : BReg) (v : Int) : (s.setBig r v).faultOpc = s.faultOpc := rfl
@[simp] theorem State.setBig_intEn (r : BReg) (v : Int) : (s.setBig r v).intEn = s.intEn := rfl
@[simp] theorem State.setBig_wsel (r : BReg) (v : Int) : (s.setBig r v).wsel = s.wsel := rfl
@[simp] theorem State.setBig_widx (r : BReg) (v : Int) : (s.setBig r v).widx = s.widx := rfl
@[simp] theorem State.setBig_phase (r : BReg) (v : Int) : (s.setBig r v).phase = s.phase := rfl
@[simp] theorem State.setBig_draws (r : BReg) (v : Int) : (s.setBig r v).draws = s.draws := rfl
@[simp] theorem State.setBig_inputs (r : BReg) (v : Int) : (s.setBig r v).inputs = s.inputs := rfl
@[simp] theorem State.setBig_readData (r : BReg) (v : Int) : (s.setBig r v).readData = s.readData := rfl

/-! ### setBank -/

@[simp] theorem State.setBank_cfg (t : BankNo) (bk : Bank) : (s.setBank t bk).cfg = s.cfg := rfl
@[simp] theorem State.setBank_b (t : BankNo) (bk : Bank) : (s.setBank t bk).b = s.b := rfl
@[simp] theorem State.setBank_tbl (t : BankNo) (bk : Bank) : (s.setBank t bk).tbl = s.tbl.set t.val bk t.isLt := rfl
@[simp] theorem State.setBank_rv (t : BankNo) (bk : Bank) : (s.setBank t bk).rv = s.rv := rfl
@[simp] theorem State.setBank_arg0 (t : BankNo) (bk : Bank) : (s.setBank t bk).arg0 = s.arg0 := rfl
@[simp] theorem State.setBank_arg1 (t : BankNo) (bk : Bank) : (s.setBank t bk).arg1 = s.arg1 := rfl
@[simp] theorem State.setBank_res0 (t : BankNo) (bk : Bank) : (s.setBank t bk).res0 = s.res0 := rfl
@[simp] theorem State.setBank_res1 (t : BankNo) (bk : Bank) : (s.setBank t bk).res1 = s.res1 := rfl
@[simp] theorem State.setBank_flags (t : BankNo) (bk : Bank) : (s.setBank t bk).flags = s.flags := rfl
@[simp] theorem State.setBank_cmdCount (t : BankNo) (bk : Bank) : (s.setBank t bk).cmdCount = s.cmdCount := rfl
@[simp] theorem State.setBank_done (t : BankNo) (bk : Bank) : (s.setBank t bk).done = s.done := rfl
@[simp] theorem State.setBank_err (t : BankNo) (bk : Bank) : (s.setBank t bk).err = s.err := rfl
@[simp] theorem State.setBank_cancelled (t : BankNo) (bk : Bank) : (s.setBank t bk).cancelled = s.cancelled := rfl
@[simp] theorem State.setBank_hostErr (t : BankNo) (bk : Bank) : (s.setBank t bk).hostErr = s.hostErr := rfl
@[simp] theorem State.setBank_cancelPending (t : BankNo) (bk : Bank) : (s.setBank t bk).cancelPending = s.cancelPending := rfl
@[simp] theorem State.setBank_faultCode (t : BankNo) (bk : Bank) : (s.setBank t bk).faultCode = s.faultCode := rfl
@[simp] theorem State.setBank_faultOpc (t : BankNo) (bk : Bank) : (s.setBank t bk).faultOpc = s.faultOpc := rfl
@[simp] theorem State.setBank_intEn (t : BankNo) (bk : Bank) : (s.setBank t bk).intEn = s.intEn := rfl
@[simp] theorem State.setBank_wsel (t : BankNo) (bk : Bank) : (s.setBank t bk).wsel = s.wsel := rfl
@[simp] theorem State.setBank_widx (t : BankNo) (bk : Bank) : (s.setBank t bk).widx = s.widx := rfl
@[simp] theorem State.setBank_phase (t : BankNo) (bk : Bank) : (s.setBank t bk).phase = s.phase := rfl
@[simp] theorem State.setBank_draws (t : BankNo) (bk : Bank) : (s.setBank t bk).draws = s.draws := rfl
@[simp] theorem State.setBank_inputs (t : BankNo) (bk : Bank) : (s.setBank t bk).inputs = s.inputs := rfl
@[simp] theorem State.setBank_readData (t : BankNo) (bk : Bank) : (s.setBank t bk).readData = s.readData := rfl

/-! ### setVec -/

@[simp] theorem State.setVec_cfg (r : VReg) (x : List Nat) : (s.setVec r x).cfg = s.cfg := rfl
@[simp] theorem State.setVec_b (r : VReg) (x : List Nat) : (s.setVec r x).b = s.b := rfl
@[simp] theorem State.setVec_tbl (r : VReg) (x : List Nat) : (s.setVec r x).tbl = s.tbl := rfl
@[simp] theorem State.setVec_rv (r : VReg) (x : List Nat) : (s.setVec r x).rv = s.rv.set r.val x r.isLt := rfl
@[simp] theorem State.setVec_arg0 (r : VReg) (x : List Nat) : (s.setVec r x).arg0 = s.arg0 := rfl
@[simp] theorem State.setVec_arg1 (r : VReg) (x : List Nat) : (s.setVec r x).arg1 = s.arg1 := rfl
@[simp] theorem State.setVec_res0 (r : VReg) (x : List Nat) : (s.setVec r x).res0 = s.res0 := rfl
@[simp] theorem State.setVec_res1 (r : VReg) (x : List Nat) : (s.setVec r x).res1 = s.res1 := rfl
@[simp] theorem State.setVec_flags (r : VReg) (x : List Nat) : (s.setVec r x).flags = s.flags := rfl
@[simp] theorem State.setVec_cmdCount (r : VReg) (x : List Nat) : (s.setVec r x).cmdCount = s.cmdCount := rfl
@[simp] theorem State.setVec_done (r : VReg) (x : List Nat) : (s.setVec r x).done = s.done := rfl
@[simp] theorem State.setVec_err (r : VReg) (x : List Nat) : (s.setVec r x).err = s.err := rfl
@[simp] theorem State.setVec_cancelled (r : VReg) (x : List Nat) : (s.setVec r x).cancelled = s.cancelled := rfl
@[simp] theorem State.setVec_hostErr (r : VReg) (x : List Nat) : (s.setVec r x).hostErr = s.hostErr := rfl
@[simp] theorem State.setVec_cancelPending (r : VReg) (x : List Nat) : (s.setVec r x).cancelPending = s.cancelPending := rfl
@[simp] theorem State.setVec_faultCode (r : VReg) (x : List Nat) : (s.setVec r x).faultCode = s.faultCode := rfl
@[simp] theorem State.setVec_faultOpc (r : VReg) (x : List Nat) : (s.setVec r x).faultOpc = s.faultOpc := rfl
@[simp] theorem State.setVec_intEn (r : VReg) (x : List Nat) : (s.setVec r x).intEn = s.intEn := rfl
@[simp] theorem State.setVec_wsel (r : VReg) (x : List Nat) : (s.setVec r x).wsel = s.wsel := rfl
@[simp] theorem State.setVec_widx (r : VReg) (x : List Nat) : (s.setVec r x).widx = s.widx := rfl
@[simp] theorem State.setVec_phase (r : VReg) (x : List Nat) : (s.setVec r x).phase = s.phase := rfl
@[simp] theorem State.setVec_draws (r : VReg) (x : List Nat) : (s.setVec r x).draws = s.draws := rfl
@[simp] theorem State.setVec_inputs (r : VReg) (x : List Nat) : (s.setVec r x).inputs = s.inputs := rfl
@[simp] theorem State.setVec_readData (r : VReg) (x : List Nat) : (s.setVec r x).readData = s.readData := rfl

/-! ### setRes -/

@[simp] theorem State.setRes_cfg (lo hi : Nat) : (s.setRes lo hi).cfg = s.cfg := rfl
@[simp] theorem State.setRes_b (lo hi : Nat) : (s.setRes lo hi).b = s.b := rfl
@[simp] theorem State.setRes_tbl (lo hi : Nat) : (s.setRes lo hi).tbl = s.tbl := rfl
@[simp] theorem State.setRes_rv (lo hi : Nat) : (s.setRes lo hi).rv = s.rv := rfl
@[simp] theorem State.setRes_arg0 (lo hi : Nat) : (s.setRes lo hi).arg0 = s.arg0 := rfl
@[simp] theorem State.setRes_arg1 (lo hi : Nat) : (s.setRes lo hi).arg1 = s.arg1 := rfl
@[simp] theorem State.setRes_res0 (lo hi : Nat) : (s.setRes lo hi).res0 = BitVec.ofNat 32 lo := rfl
@[simp] theorem State.setRes_res1 (lo hi : Nat) : (s.setRes lo hi).res1 = BitVec.ofNat 32 hi := rfl
@[simp] theorem State.setRes_flags (lo hi : Nat) : (s.setRes lo hi).flags = s.flags := rfl
@[simp] theorem State.setRes_cmdCount (lo hi : Nat) : (s.setRes lo hi).cmdCount = s.cmdCount := rfl
@[simp] theorem State.setRes_done (lo hi : Nat) : (s.setRes lo hi).done = s.done := rfl
@[simp] theorem State.setRes_err (lo hi : Nat) : (s.setRes lo hi).err = s.err := rfl
@[simp] theorem State.setRes_cancelled (lo hi : Nat) : (s.setRes lo hi).cancelled = s.cancelled := rfl
@[simp] theorem State.setRes_hostErr (lo hi : Nat) : (s.setRes lo hi).hostErr = s.hostErr := rfl
@[simp] theorem State.setRes_cancelPending (lo hi : Nat) : (s.setRes lo hi).cancelPending = s.cancelPending := rfl
@[simp] theorem State.setRes_faultCode (lo hi : Nat) : (s.setRes lo hi).faultCode = s.faultCode := rfl
@[simp] theorem State.setRes_faultOpc (lo hi : Nat) : (s.setRes lo hi).faultOpc = s.faultOpc := rfl
@[simp] theorem State.setRes_intEn (lo hi : Nat) : (s.setRes lo hi).intEn = s.intEn := rfl
@[simp] theorem State.setRes_wsel (lo hi : Nat) : (s.setRes lo hi).wsel = s.wsel := rfl
@[simp] theorem State.setRes_widx (lo hi : Nat) : (s.setRes lo hi).widx = s.widx := rfl
@[simp] theorem State.setRes_phase (lo hi : Nat) : (s.setRes lo hi).phase = s.phase := rfl
@[simp] theorem State.setRes_draws (lo hi : Nat) : (s.setRes lo hi).draws = s.draws := rfl
@[simp] theorem State.setRes_inputs (lo hi : Nat) : (s.setRes lo hi).inputs = s.inputs := rfl
@[simp] theorem State.setRes_readData (lo hi : Nat) : (s.setRes lo hi).readData = s.readData := rfl

/-! ### setFlags -/

@[simp] theorem State.setFlags_cfg (f : Flags) : (s.setFlags f).cfg = s.cfg := rfl
@[simp] theorem State.setFlags_b (f : Flags) : (s.setFlags f).b = s.b := rfl
@[simp] theorem State.setFlags_tbl (f : Flags) : (s.setFlags f).tbl = s.tbl := rfl
@[simp] theorem State.setFlags_rv (f : Flags) : (s.setFlags f).rv = s.rv := rfl
@[simp] theorem State.setFlags_arg0 (f : Flags) : (s.setFlags f).arg0 = s.arg0 := rfl
@[simp] theorem State.setFlags_arg1 (f : Flags) : (s.setFlags f).arg1 = s.arg1 := rfl
@[simp] theorem State.setFlags_res0 (f : Flags) : (s.setFlags f).res0 = s.res0 := rfl
@[simp] theorem State.setFlags_res1 (f : Flags) : (s.setFlags f).res1 = s.res1 := rfl
@[simp] theorem State.setFlags_flags (f : Flags) : (s.setFlags f).flags = f := rfl
@[simp] theorem State.setFlags_cmdCount (f : Flags) : (s.setFlags f).cmdCount = s.cmdCount := rfl
@[simp] theorem State.setFlags_done (f : Flags) : (s.setFlags f).done = s.done := rfl
@[simp] theorem State.setFlags_err (f : Flags) : (s.setFlags f).err = s.err := rfl
@[simp] theorem State.setFlags_cancelled (f : Flags) : (s.setFlags f).cancelled = s.cancelled := rfl
@[simp] theorem State.setFlags_hostErr (f : Flags) : (s.setFlags f).hostErr = s.hostErr := rfl
@[simp] theorem State.setFlags_cancelPending (f : Flags) : (s.setFlags f).cancelPending = s.cancelPending := rfl
@[simp] theorem State.setFlags_faultCode (f : Flags) : (s.setFlags f).faultCode = s.faultCode := rfl
@[simp] theorem State.setFlags_faultOpc (f : Flags) : (s.setFlags f).faultOpc = s.faultOpc := rfl
@[simp] theorem State.setFlags_intEn (f : Flags) : (s.setFlags f).intEn = s.intEn := rfl
@[simp] theorem State.setFlags_wsel (f : Flags) : (s.setFlags f).wsel = s.wsel := rfl
@[simp] theorem State.setFlags_widx (f : Flags) : (s.setFlags f).widx = s.widx := rfl
@[simp] theorem State.setFlags_phase (f : Flags) : (s.setFlags f).phase = s.phase := rfl
@[simp] theorem State.setFlags_draws (f : Flags) : (s.setFlags f).draws = s.draws := rfl
@[simp] theorem State.setFlags_inputs (f : Flags) : (s.setFlags f).inputs = s.inputs := rfl
@[simp] theorem State.setFlags_readData (f : Flags) : (s.setFlags f).readData = s.readData := rfl

/-! ### putBig -/

@[simp] theorem State.putBig_cfg (r : BReg) (v : Int) : (s.putBig r v).cfg = s.cfg := rfl
@[simp] theorem State.putBig_b (r : BReg) (v : Int) : (s.putBig r v).b = s.b.set r.val v r.isLt := rfl
@[simp] theorem State.putBig_tbl (r : BReg) (v : Int) : (s.putBig r v).tbl = s.tbl := rfl
@[simp] theorem State.putBig_rv (r : BReg) (v : Int) : (s.putBig r v).rv = s.rv := rfl
@[simp] theorem State.putBig_arg0 (r : BReg) (v : Int) : (s.putBig r v).arg0 = s.arg0 := rfl
@[simp] theorem State.putBig_arg1 (r : BReg) (v : Int) : (s.putBig r v).arg1 = s.arg1 := rfl
@[simp] theorem State.putBig_res0 (r : BReg) (v : Int) : (s.putBig r v).res0 = s.res0 := rfl
@[simp] theorem State.putBig_res1 (r : BReg) (v : Int) : (s.putBig r v).res1 = s.res1 := rfl
@[simp] theorem State.putBig_flags (r : BReg) (v : Int) : (s.putBig r v).flags = s.flags.primary v := rfl
@[simp] theorem State.putBig_cmdCount (r : BReg) (v : Int) : (s.putBig r v).cmdCount = s.cmdCount := rfl
@[simp] theorem State.putBig_done (r : BReg) (v : Int) : (s.putBig r v).done = s.done := rfl
@[simp] theorem State.putBig_err (r : BReg) (v : Int) : (s.putBig r v).err = s.err := rfl
@[simp] theorem State.putBig_cancelled (r : BReg) (v : Int) : (s.putBig r v).cancelled = s.cancelled := rfl
@[simp] theorem State.putBig_hostErr (r : BReg) (v : Int) : (s.putBig r v).hostErr = s.hostErr := rfl
@[simp] theorem State.putBig_cancelPending (r : BReg) (v : Int) : (s.putBig r v).cancelPending = s.cancelPending := rfl
@[simp] theorem State.putBig_faultCode (r : BReg) (v : Int) : (s.putBig r v).faultCode = s.faultCode := rfl
@[simp] theorem State.putBig_faultOpc (r : BReg) (v : Int) : (s.putBig r v).faultOpc = s.faultOpc := rfl
@[simp] theorem State.putBig_intEn (r : BReg) (v : Int) : (s.putBig r v).intEn = s.intEn := rfl
@[simp] theorem State.putBig_wsel (r : BReg) (v : Int) : (s.putBig r v).wsel = s.wsel := rfl
@[simp] theorem State.putBig_widx (r : BReg) (v : Int) : (s.putBig r v).widx = s.widx := rfl
@[simp] theorem State.putBig_phase (r : BReg) (v : Int) : (s.putBig r v).phase = s.phase := rfl
@[simp] theorem State.putBig_draws (r : BReg) (v : Int) : (s.putBig r v).draws = s.draws := rfl
@[simp] theorem State.putBig_inputs (r : BReg) (v : Int) : (s.putBig r v).inputs = s.inputs := rfl
@[simp] theorem State.putBig_readData (r : BReg) (v : Int) : (s.putBig r v).readData = s.readData := rfl

/-! ### accept -/

@[simp] theorem State.accept_cfg (w : Word) : (s.accept w).cfg = s.cfg := rfl
@[simp] theorem State.accept_b (w : Word) : (s.accept w).b = s.b := rfl
@[simp] theorem State.accept_tbl (w : Word) : (s.accept w).tbl = s.tbl := rfl
@[simp] theorem State.accept_rv (w : Word) : (s.accept w).rv = s.rv := rfl
@[simp] theorem State.accept_arg0 (w : Word) : (s.accept w).arg0 = s.arg0 := rfl
@[simp] theorem State.accept_arg1 (w : Word) : (s.accept w).arg1 = s.arg1 := rfl
@[simp] theorem State.accept_res0 (w : Word) : (s.accept w).res0 = s.res0 := rfl
@[simp] theorem State.accept_res1 (w : Word) : (s.accept w).res1 = s.res1 := rfl
@[simp] theorem State.accept_flags (w : Word) : (s.accept w).flags = s.flags := rfl
@[simp] theorem State.accept_cmdCount (w : Word) : (s.accept w).cmdCount = s.cmdCount + 1#32 := rfl
@[simp] theorem State.accept_done (w : Word) : (s.accept w).done = false := rfl
@[simp] theorem State.accept_err (w : Word) : (s.accept w).err = false := rfl
@[simp] theorem State.accept_cancelled (w : Word) : (s.accept w).cancelled = false := rfl
@[simp] theorem State.accept_hostErr (w : Word) : (s.accept w).hostErr = s.hostErr := rfl
@[simp] theorem State.accept_cancelPending (w : Word) : (s.accept w).cancelPending = s.cancelPending := rfl
@[simp] theorem State.accept_faultCode (w : Word) : (s.accept w).faultCode = .none := rfl
@[simp] theorem State.accept_faultOpc (w : Word) : (s.accept w).faultOpc = 0#8 := rfl
@[simp] theorem State.accept_intEn (w : Word) : (s.accept w).intEn = s.intEn := rfl
@[simp] theorem State.accept_wsel (w : Word) : (s.accept w).wsel = s.wsel := rfl
@[simp] theorem State.accept_widx (w : Word) : (s.accept w).widx = s.widx := rfl
@[simp] theorem State.accept_phase (w : Word) : (s.accept w).phase = .run { word := w, snap := s.b, seg := 0 } := rfl
@[simp] theorem State.accept_draws (w : Word) : (s.accept w).draws = s.draws := rfl
@[simp] theorem State.accept_inputs (w : Word) : (s.accept w).inputs = s.inputs := rfl
@[simp] theorem State.accept_readData (w : Word) : (s.accept w).readData = s.readData := rfl

/-! ### succeed -/

@[simp] theorem State.succeed_cfg : s.succeed.cfg = s.cfg := rfl
@[simp] theorem State.succeed_b : s.succeed.b = s.b := rfl
@[simp] theorem State.succeed_tbl : s.succeed.tbl = s.tbl := rfl
@[simp] theorem State.succeed_rv : s.succeed.rv = s.rv := rfl
@[simp] theorem State.succeed_arg0 : s.succeed.arg0 = s.arg0 := rfl
@[simp] theorem State.succeed_arg1 : s.succeed.arg1 = s.arg1 := rfl
@[simp] theorem State.succeed_res0 : s.succeed.res0 = s.res0 := rfl
@[simp] theorem State.succeed_res1 : s.succeed.res1 = s.res1 := rfl
@[simp] theorem State.succeed_flags : s.succeed.flags = s.flags := rfl
@[simp] theorem State.succeed_cmdCount : s.succeed.cmdCount = s.cmdCount := rfl
@[simp] theorem State.succeed_done : s.succeed.done = true := rfl
@[simp] theorem State.succeed_err : s.succeed.err = false := rfl
@[simp] theorem State.succeed_cancelled : s.succeed.cancelled = false := rfl
@[simp] theorem State.succeed_hostErr : s.succeed.hostErr = s.hostErr := rfl
@[simp] theorem State.succeed_cancelPending : s.succeed.cancelPending = s.cancelPending := rfl
@[simp] theorem State.succeed_faultCode : s.succeed.faultCode = .none := rfl
@[simp] theorem State.succeed_faultOpc : s.succeed.faultOpc = 0#8 := rfl
@[simp] theorem State.succeed_intEn : s.succeed.intEn = s.intEn := rfl
@[simp] theorem State.succeed_wsel : s.succeed.wsel = s.wsel := rfl
@[simp] theorem State.succeed_widx : s.succeed.widx = s.widx := rfl
@[simp] theorem State.succeed_phase : s.succeed.phase = .idle := rfl
@[simp] theorem State.succeed_draws : s.succeed.draws = s.draws := rfl
@[simp] theorem State.succeed_inputs : s.succeed.inputs = s.inputs := rfl
@[simp] theorem State.succeed_readData : s.succeed.readData = s.readData := rfl

/-! ### failWith -/

@[simp] theorem State.failWith_cfg (o : Byte) (c : FaultCode) : (s.failWith o c).cfg = s.cfg := rfl
@[simp] theorem State.failWith_b (o : Byte) (c : FaultCode) : (s.failWith o c).b = s.b := rfl
@[simp] theorem State.failWith_tbl (o : Byte) (c : FaultCode) : (s.failWith o c).tbl = s.tbl := rfl
@[simp] theorem State.failWith_rv (o : Byte) (c : FaultCode) : (s.failWith o c).rv = s.rv := rfl
@[simp] theorem State.failWith_arg0 (o : Byte) (c : FaultCode) : (s.failWith o c).arg0 = s.arg0 := rfl
@[simp] theorem State.failWith_arg1 (o : Byte) (c : FaultCode) : (s.failWith o c).arg1 = s.arg1 := rfl
@[simp] theorem State.failWith_res0 (o : Byte) (c : FaultCode) : (s.failWith o c).res0 = s.res0 := rfl
@[simp] theorem State.failWith_res1 (o : Byte) (c : FaultCode) : (s.failWith o c).res1 = s.res1 := rfl
@[simp] theorem State.failWith_flags (o : Byte) (c : FaultCode) : (s.failWith o c).flags = s.flags := rfl
@[simp] theorem State.failWith_cmdCount (o : Byte) (c : FaultCode) : (s.failWith o c).cmdCount = s.cmdCount := rfl
@[simp] theorem State.failWith_done (o : Byte) (c : FaultCode) : (s.failWith o c).done = true := rfl
@[simp] theorem State.failWith_err (o : Byte) (c : FaultCode) : (s.failWith o c).err = true := rfl
@[simp] theorem State.failWith_cancelled (o : Byte) (c : FaultCode) : (s.failWith o c).cancelled = false := rfl
@[simp] theorem State.failWith_hostErr (o : Byte) (c : FaultCode) : (s.failWith o c).hostErr = s.hostErr := rfl
@[simp] theorem State.failWith_cancelPending (o : Byte) (c : FaultCode) : (s.failWith o c).cancelPending = s.cancelPending := rfl
@[simp] theorem State.failWith_faultCode (o : Byte) (c : FaultCode) : (s.failWith o c).faultCode = c := rfl
@[simp] theorem State.failWith_faultOpc (o : Byte) (c : FaultCode) : (s.failWith o c).faultOpc = o := rfl
@[simp] theorem State.failWith_intEn (o : Byte) (c : FaultCode) : (s.failWith o c).intEn = s.intEn := rfl
@[simp] theorem State.failWith_wsel (o : Byte) (c : FaultCode) : (s.failWith o c).wsel = s.wsel := rfl
@[simp] theorem State.failWith_widx (o : Byte) (c : FaultCode) : (s.failWith o c).widx = s.widx := rfl
@[simp] theorem State.failWith_phase (o : Byte) (c : FaultCode) : (s.failWith o c).phase = .idle := rfl
@[simp] theorem State.failWith_draws (o : Byte) (c : FaultCode) : (s.failWith o c).draws = s.draws := rfl
@[simp] theorem State.failWith_inputs (o : Byte) (c : FaultCode) : (s.failWith o c).inputs = s.inputs := rfl
@[simp] theorem State.failWith_readData (o : Byte) (c : FaultCode) : (s.failWith o c).readData = s.readData := rfl

/-! ### cancelEnd -/

@[simp] theorem State.cancelEnd_cfg : s.cancelEnd.cfg = s.cfg := rfl
@[simp] theorem State.cancelEnd_b : s.cancelEnd.b = s.b := rfl
@[simp] theorem State.cancelEnd_tbl : s.cancelEnd.tbl = s.tbl := rfl
@[simp] theorem State.cancelEnd_rv : s.cancelEnd.rv = s.rv := rfl
@[simp] theorem State.cancelEnd_arg0 : s.cancelEnd.arg0 = s.arg0 := rfl
@[simp] theorem State.cancelEnd_arg1 : s.cancelEnd.arg1 = s.arg1 := rfl
@[simp] theorem State.cancelEnd_res0 : s.cancelEnd.res0 = s.res0 := rfl
@[simp] theorem State.cancelEnd_res1 : s.cancelEnd.res1 = s.res1 := rfl
@[simp] theorem State.cancelEnd_flags : s.cancelEnd.flags = s.flags := rfl
@[simp] theorem State.cancelEnd_cmdCount : s.cancelEnd.cmdCount = s.cmdCount := rfl
@[simp] theorem State.cancelEnd_done : s.cancelEnd.done = true := rfl
@[simp] theorem State.cancelEnd_err : s.cancelEnd.err = false := rfl
@[simp] theorem State.cancelEnd_cancelled : s.cancelEnd.cancelled = true := rfl
@[simp] theorem State.cancelEnd_hostErr : s.cancelEnd.hostErr = s.hostErr := rfl
@[simp] theorem State.cancelEnd_cancelPending : s.cancelEnd.cancelPending = false := rfl
@[simp] theorem State.cancelEnd_faultCode : s.cancelEnd.faultCode = .none := rfl
@[simp] theorem State.cancelEnd_faultOpc : s.cancelEnd.faultOpc = 0#8 := rfl
@[simp] theorem State.cancelEnd_intEn : s.cancelEnd.intEn = s.intEn := rfl
@[simp] theorem State.cancelEnd_wsel : s.cancelEnd.wsel = s.wsel := rfl
@[simp] theorem State.cancelEnd_widx : s.cancelEnd.widx = s.widx := rfl
@[simp] theorem State.cancelEnd_phase : s.cancelEnd.phase = .idle := rfl
@[simp] theorem State.cancelEnd_draws : s.cancelEnd.draws = s.draws := rfl
@[simp] theorem State.cancelEnd_inputs : s.cancelEnd.inputs = s.inputs := rfl
@[simp] theorem State.cancelEnd_readData : s.cancelEnd.readData = s.readData := rfl

/-! ### stopAt -/

@[simp] theorem State.stopAt_cfg (w : Word) (n : Nat) : (s.stopAt w n).cfg = s.cfg := rfl
@[simp] theorem State.stopAt_b (w : Word) (n : Nat) : (s.stopAt w n).b = s.b := rfl
@[simp] theorem State.stopAt_tbl (w : Word) (n : Nat) : (s.stopAt w n).tbl = s.tbl := rfl
@[simp] theorem State.stopAt_rv (w : Word) (n : Nat) : (s.stopAt w n).rv = s.rv := rfl
@[simp] theorem State.stopAt_arg0 (w : Word) (n : Nat) : (s.stopAt w n).arg0 = s.arg0 := rfl
@[simp] theorem State.stopAt_arg1 (w : Word) (n : Nat) : (s.stopAt w n).arg1 = s.arg1 := rfl
@[simp] theorem State.stopAt_res0 (w : Word) (n : Nat) : (s.stopAt w n).res0 = s.res0 := rfl
@[simp] theorem State.stopAt_res1 (w : Word) (n : Nat) : (s.stopAt w n).res1 = s.res1 := rfl
@[simp] theorem State.stopAt_flags (w : Word) (n : Nat) : (s.stopAt w n).flags = s.flags := rfl
@[simp] theorem State.stopAt_cmdCount (w : Word) (n : Nat) : (s.stopAt w n).cmdCount = s.cmdCount := rfl
@[simp] theorem State.stopAt_done (w : Word) (n : Nat) : (s.stopAt w n).done = s.done := rfl
@[simp] theorem State.stopAt_err (w : Word) (n : Nat) : (s.stopAt w n).err = s.err := rfl
@[simp] theorem State.stopAt_cancelled (w : Word) (n : Nat) : (s.stopAt w n).cancelled = s.cancelled := rfl
@[simp] theorem State.stopAt_hostErr (w : Word) (n : Nat) : (s.stopAt w n).hostErr = s.hostErr := rfl
@[simp] theorem State.stopAt_cancelPending (w : Word) (n : Nat) : (s.stopAt w n).cancelPending = s.cancelPending := rfl
@[simp] theorem State.stopAt_faultCode (w : Word) (n : Nat) : (s.stopAt w n).faultCode = s.faultCode := rfl
@[simp] theorem State.stopAt_faultOpc (w : Word) (n : Nat) : (s.stopAt w n).faultOpc = s.faultOpc := rfl
@[simp] theorem State.stopAt_intEn (w : Word) (n : Nat) : (s.stopAt w n).intEn = s.intEn := rfl
@[simp] theorem State.stopAt_wsel (w : Word) (n : Nat) : (s.stopAt w n).wsel = s.wsel := rfl
@[simp] theorem State.stopAt_widx (w : Word) (n : Nat) : (s.stopAt w n).widx = s.widx := rfl
@[simp] theorem State.stopAt_draws (w : Word) (n : Nat) : (s.stopAt w n).draws = s.draws := rfl
@[simp] theorem State.stopAt_inputs (w : Word) (n : Nat) : (s.stopAt w n).inputs = s.inputs := rfl
@[simp] theorem State.stopAt_readData (w : Word) (n : Nat) : (s.stopAt w n).readData = s.readData := rfl

/-! ### endInit -/

@[simp] theorem State.endInit_cfg : s.endInit.cfg = s.cfg := rfl
@[simp] theorem State.endInit_b : s.endInit.b = s.b := rfl
@[simp] theorem State.endInit_tbl : s.endInit.tbl = s.tbl := rfl
@[simp] theorem State.endInit_rv : s.endInit.rv = s.rv := rfl
@[simp] theorem State.endInit_arg0 : s.endInit.arg0 = s.arg0 := rfl
@[simp] theorem State.endInit_arg1 : s.endInit.arg1 = s.arg1 := rfl
@[simp] theorem State.endInit_res0 : s.endInit.res0 = s.res0 := rfl
@[simp] theorem State.endInit_res1 : s.endInit.res1 = s.res1 := rfl
@[simp] theorem State.endInit_flags : s.endInit.flags = s.flags := rfl
@[simp] theorem State.endInit_cmdCount : s.endInit.cmdCount = s.cmdCount := rfl
@[simp] theorem State.endInit_done : s.endInit.done = s.done := rfl
@[simp] theorem State.endInit_err : s.endInit.err = s.err := rfl
@[simp] theorem State.endInit_cancelled : s.endInit.cancelled = s.cancelled := rfl
@[simp] theorem State.endInit_hostErr : s.endInit.hostErr = s.hostErr := rfl
@[simp] theorem State.endInit_cancelPending : s.endInit.cancelPending = s.cancelPending := rfl
@[simp] theorem State.endInit_faultCode : s.endInit.faultCode = s.faultCode := rfl
@[simp] theorem State.endInit_faultOpc : s.endInit.faultOpc = s.faultOpc := rfl
@[simp] theorem State.endInit_intEn : s.endInit.intEn = s.intEn := rfl
@[simp] theorem State.endInit_wsel : s.endInit.wsel = s.wsel := rfl
@[simp] theorem State.endInit_widx : s.endInit.widx = s.widx := rfl
@[simp] theorem State.endInit_phase : s.endInit.phase = .idle := rfl
@[simp] theorem State.endInit_draws : s.endInit.draws = s.draws := rfl
@[simp] theorem State.endInit_inputs : s.endInit.inputs = s.inputs := rfl
@[simp] theorem State.endInit_readData : s.endInit.readData = s.readData := rfl

/-! ### flagHostErr -/

@[simp] theorem State.flagHostErr_cfg : s.flagHostErr.cfg = s.cfg := rfl
@[simp] theorem State.flagHostErr_b : s.flagHostErr.b = s.b := rfl
@[simp] theorem State.flagHostErr_tbl : s.flagHostErr.tbl = s.tbl := rfl
@[simp] theorem State.flagHostErr_rv : s.flagHostErr.rv = s.rv := rfl
@[simp] theorem State.flagHostErr_arg0 : s.flagHostErr.arg0 = s.arg0 := rfl
@[simp] theorem State.flagHostErr_arg1 : s.flagHostErr.arg1 = s.arg1 := rfl
@[simp] theorem State.flagHostErr_res0 : s.flagHostErr.res0 = s.res0 := rfl
@[simp] theorem State.flagHostErr_res1 : s.flagHostErr.res1 = s.res1 := rfl
@[simp] theorem State.flagHostErr_flags : s.flagHostErr.flags = s.flags := rfl
@[simp] theorem State.flagHostErr_cmdCount : s.flagHostErr.cmdCount = s.cmdCount := rfl
@[simp] theorem State.flagHostErr_done : s.flagHostErr.done = s.done := rfl
@[simp] theorem State.flagHostErr_err : s.flagHostErr.err = s.err := rfl
@[simp] theorem State.flagHostErr_cancelled : s.flagHostErr.cancelled = s.cancelled := rfl
@[simp] theorem State.flagHostErr_hostErr : s.flagHostErr.hostErr = true := rfl
@[simp] theorem State.flagHostErr_cancelPending : s.flagHostErr.cancelPending = s.cancelPending := rfl
@[simp] theorem State.flagHostErr_faultCode : s.flagHostErr.faultCode = s.faultCode := rfl
@[simp] theorem State.flagHostErr_faultOpc : s.flagHostErr.faultOpc = s.faultOpc := rfl
@[simp] theorem State.flagHostErr_intEn : s.flagHostErr.intEn = s.intEn := rfl
@[simp] theorem State.flagHostErr_wsel : s.flagHostErr.wsel = s.wsel := rfl
@[simp] theorem State.flagHostErr_widx : s.flagHostErr.widx = s.widx := rfl
@[simp] theorem State.flagHostErr_phase : s.flagHostErr.phase = s.phase := rfl
@[simp] theorem State.flagHostErr_draws : s.flagHostErr.draws = s.draws := rfl
@[simp] theorem State.flagHostErr_inputs : s.flagHostErr.inputs = s.inputs := rfl
@[simp] theorem State.flagHostErr_readData : s.flagHostErr.readData = s.readData := rfl

/-! ### answer -/

@[simp] theorem State.answer_cfg (w : Word) : (s.answer w).cfg = s.cfg := rfl
@[simp] theorem State.answer_b (w : Word) : (s.answer w).b = s.b := rfl
@[simp] theorem State.answer_tbl (w : Word) : (s.answer w).tbl = s.tbl := rfl
@[simp] theorem State.answer_rv (w : Word) : (s.answer w).rv = s.rv := rfl
@[simp] theorem State.answer_arg0 (w : Word) : (s.answer w).arg0 = s.arg0 := rfl
@[simp] theorem State.answer_arg1 (w : Word) : (s.answer w).arg1 = s.arg1 := rfl
@[simp] theorem State.answer_res0 (w : Word) : (s.answer w).res0 = s.res0 := rfl
@[simp] theorem State.answer_res1 (w : Word) : (s.answer w).res1 = s.res1 := rfl
@[simp] theorem State.answer_flags (w : Word) : (s.answer w).flags = s.flags := rfl
@[simp] theorem State.answer_cmdCount (w : Word) : (s.answer w).cmdCount = s.cmdCount := rfl
@[simp] theorem State.answer_done (w : Word) : (s.answer w).done = s.done := rfl
@[simp] theorem State.answer_err (w : Word) : (s.answer w).err = s.err := rfl
@[simp] theorem State.answer_cancelled (w : Word) : (s.answer w).cancelled = s.cancelled := rfl
@[simp] theorem State.answer_hostErr (w : Word) : (s.answer w).hostErr = s.hostErr := rfl
@[simp] theorem State.answer_cancelPending (w : Word) : (s.answer w).cancelPending = s.cancelPending := rfl
@[simp] theorem State.answer_faultCode (w : Word) : (s.answer w).faultCode = s.faultCode := rfl
@[simp] theorem State.answer_faultOpc (w : Word) : (s.answer w).faultOpc = s.faultOpc := rfl
@[simp] theorem State.answer_intEn (w : Word) : (s.answer w).intEn = s.intEn := rfl
@[simp] theorem State.answer_wsel (w : Word) : (s.answer w).wsel = s.wsel := rfl
@[simp] theorem State.answer_widx (w : Word) : (s.answer w).widx = s.widx := rfl
@[simp] theorem State.answer_phase (w : Word) : (s.answer w).phase = s.phase := rfl
@[simp] theorem State.answer_draws (w : Word) : (s.answer w).draws = s.draws := rfl
@[simp] theorem State.answer_inputs (w : Word) : (s.answer w).inputs = s.inputs := rfl
@[simp] theorem State.answer_readData (w : Word) : (s.answer w).readData = w := rfl

/-! ### putRemainder -/

@[simp] theorem State.putRemainder_cfg (r : Int) : (s.putRemainder r).cfg = s.cfg := rfl
@[simp] theorem State.putRemainder_b (r : Int) : (s.putRemainder r).b = s.b := rfl
@[simp] theorem State.putRemainder_tbl (r : Int) : (s.putRemainder r).tbl = s.tbl := rfl
@[simp] theorem State.putRemainder_rv (r : Int) : (s.putRemainder r).rv = s.rv := rfl
@[simp] theorem State.putRemainder_arg0 (r : Int) : (s.putRemainder r).arg0 = s.arg0 := rfl
@[simp] theorem State.putRemainder_arg1 (r : Int) : (s.putRemainder r).arg1 = s.arg1 := rfl
@[simp] theorem State.putRemainder_res0 (r : Int) : (s.putRemainder r).res0 = BitVec.ofNat 32 (r.toNat % 2 ^ 32) := rfl
@[simp] theorem State.putRemainder_res1 (r : Int) : (s.putRemainder r).res1 = BitVec.ofNat 32 (r.toNat / 2 ^ 32) := rfl
@[simp] theorem State.putRemainder_flags (r : Int) : (s.putRemainder r).flags = s.flags.primary r := rfl
@[simp] theorem State.putRemainder_cmdCount (r : Int) : (s.putRemainder r).cmdCount = s.cmdCount := rfl
@[simp] theorem State.putRemainder_done (r : Int) : (s.putRemainder r).done = s.done := rfl
@[simp] theorem State.putRemainder_err (r : Int) : (s.putRemainder r).err = s.err := rfl
@[simp] theorem State.putRemainder_cancelled (r : Int) : (s.putRemainder r).cancelled = s.cancelled := rfl
@[simp] theorem State.putRemainder_hostErr (r : Int) : (s.putRemainder r).hostErr = s.hostErr := rfl
@[simp] theorem State.putRemainder_cancelPending (r : Int) : (s.putRemainder r).cancelPending = s.cancelPending := rfl
@[simp] theorem State.putRemainder_faultCode (r : Int) : (s.putRemainder r).faultCode = s.faultCode := rfl
@[simp] theorem State.putRemainder_faultOpc (r : Int) : (s.putRemainder r).faultOpc = s.faultOpc := rfl
@[simp] theorem State.putRemainder_intEn (r : Int) : (s.putRemainder r).intEn = s.intEn := rfl
@[simp] theorem State.putRemainder_wsel (r : Int) : (s.putRemainder r).wsel = s.wsel := rfl
@[simp] theorem State.putRemainder_widx (r : Int) : (s.putRemainder r).widx = s.widx := rfl
@[simp] theorem State.putRemainder_phase (r : Int) : (s.putRemainder r).phase = s.phase := rfl
@[simp] theorem State.putRemainder_draws (r : Int) : (s.putRemainder r).draws = s.draws := rfl
@[simp] theorem State.putRemainder_inputs (r : Int) : (s.putRemainder r).inputs = s.inputs := rfl
@[simp] theorem State.putRemainder_readData (r : Int) : (s.putRemainder r).readData = s.readData := rfl

/-! ### putVerdict -/

@[simp] theorem State.putVerdict_cfg (p : Bool) (x : Nat) : (s.putVerdict p x).cfg = s.cfg := rfl
@[simp] theorem State.putVerdict_b (p : Bool) (x : Nat) : (s.putVerdict p x).b = s.b := rfl
@[simp] theorem State.putVerdict_tbl (p : Bool) (x : Nat) : (s.putVerdict p x).tbl = s.tbl := rfl
@[simp] theorem State.putVerdict_rv (p : Bool) (x : Nat) : (s.putVerdict p x).rv = s.rv := rfl
@[simp] theorem State.putVerdict_arg0 (p : Bool) (x : Nat) : (s.putVerdict p x).arg0 = s.arg0 := rfl
@[simp] theorem State.putVerdict_arg1 (p : Bool) (x : Nat) : (s.putVerdict p x).arg1 = s.arg1 := rfl
@[simp] theorem State.putVerdict_res0 (p : Bool) (x : Nat) : (s.putVerdict p x).res0 = BitVec.ofNat 32 x := rfl
@[simp] theorem State.putVerdict_res1 (p : Bool) (x : Nat) : (s.putVerdict p x).res1 = BitVec.ofNat 32 0 := rfl
@[simp] theorem State.putVerdict_flags (p : Bool) (x : Nat) : (s.putVerdict p x).flags = s.flags.verdict p := rfl
@[simp] theorem State.putVerdict_cmdCount (p : Bool) (x : Nat) : (s.putVerdict p x).cmdCount = s.cmdCount := rfl
@[simp] theorem State.putVerdict_done (p : Bool) (x : Nat) : (s.putVerdict p x).done = s.done := rfl
@[simp] theorem State.putVerdict_err (p : Bool) (x : Nat) : (s.putVerdict p x).err = s.err := rfl
@[simp] theorem State.putVerdict_cancelled (p : Bool) (x : Nat) : (s.putVerdict p x).cancelled = s.cancelled := rfl
@[simp] theorem State.putVerdict_hostErr (p : Bool) (x : Nat) : (s.putVerdict p x).hostErr = s.hostErr := rfl
@[simp] theorem State.putVerdict_cancelPending (p : Bool) (x : Nat) : (s.putVerdict p x).cancelPending = s.cancelPending := rfl
@[simp] theorem State.putVerdict_faultCode (p : Bool) (x : Nat) : (s.putVerdict p x).faultCode = s.faultCode := rfl
@[simp] theorem State.putVerdict_faultOpc (p : Bool) (x : Nat) : (s.putVerdict p x).faultOpc = s.faultOpc := rfl
@[simp] theorem State.putVerdict_intEn (p : Bool) (x : Nat) : (s.putVerdict p x).intEn = s.intEn := rfl
@[simp] theorem State.putVerdict_wsel (p : Bool) (x : Nat) : (s.putVerdict p x).wsel = s.wsel := rfl
@[simp] theorem State.putVerdict_widx (p : Bool) (x : Nat) : (s.putVerdict p x).widx = s.widx := rfl
@[simp] theorem State.putVerdict_phase (p : Bool) (x : Nat) : (s.putVerdict p x).phase = s.phase := rfl
@[simp] theorem State.putVerdict_draws (p : Bool) (x : Nat) : (s.putVerdict p x).draws = s.draws := rfl
@[simp] theorem State.putVerdict_inputs (p : Bool) (x : Nat) : (s.putVerdict p x).inputs = s.inputs := rfl
@[simp] theorem State.putVerdict_readData (p : Bool) (x : Nat) : (s.putVerdict p x).readData = s.readData := rfl

/-! ### applyReset -/

@[simp] theorem State.applyReset_cfg : s.applyReset.cfg = s.cfg := rfl
@[simp] theorem State.applyReset_draws : s.applyReset.draws = s.draws := rfl
@[simp] theorem State.applyReset_inputs : s.applyReset.inputs = s.inputs := rfl
@[simp] theorem State.applyReset_readData : s.applyReset.readData = s.readData := rfl

/-! ### Reading after writing -/

@[simp] theorem State.setBig_same (r : BReg) (v : Int) : (s.setBig r v).b[r] = v := by
  simp

theorem State.setBig_other {r q : BReg} (v : Int) (h : q ≠ r) : (s.setBig r v).b[q] = s.b[q] := by
  have : r.val ≠ q.val := fun e => h (Fin.ext e.symm)
  simp [this]

@[simp] theorem State.setBank_same (t : BankNo) (bk : Bank) : (s.setBank t bk).tbl[t] = bk := by
  simp

theorem State.setBank_other {t q : BankNo} (bk : Bank) (h : q ≠ t) : (s.setBank t bk).tbl[q] = s.tbl[q] := by
  have : t.val ≠ q.val := fun e => h (Fin.ext e.symm)
  simp [this]

@[simp] theorem State.setVec_same (r : VReg) (x : List Nat) : (s.setVec r x).rv[r] = x := by
  simp

theorem State.setVec_other {r q : VReg} (x : List Nat) (h : q ≠ r) : (s.setVec r x).rv[q] = s.rv[q] := by
  have : r.val ≠ q.val := fun e => h (Fin.ext e.symm)
  simp [this]

/-! ### Operands and segments through the updates of a command's first steps -/

@[simp] theorem State.opBig_setBank (t : BankNo) (bk : Bank) (r : BReg) : (s.setBank t bk).opBig r = s.opBig r := rfl

@[simp] theorem State.opBig_stopAt (w : Word) (n : Nat) (r : BReg) : (s.stopAt w n).opBig r = s.opBig r := by
  unfold State.opBig State.stopAt
  cases s.phase <;> rfl

@[simp] theorem State.segment_stopAt (w : Word) (n : Nat) : (s.stopAt w n).segment = n := by
  unfold State.segment State.stopAt
  cases s.phase <;> rfl

@[simp] theorem State.bank_setBank_same (t : BankNo) (bk : Bank) : (s.setBank t bk).bank t = bk := by
  simp [State.bank]

theorem State.opBig_run {j : Job} (h : s.phase = .run j) (r : BReg) : s.opBig r = j.snap[r] := by
  simp [State.opBig, h]

theorem State.segment_run {j : Job} (h : s.phase = .run j) : s.segment = j.seg := by
  simp [State.segment, h]

end Sys2Proof.Machine
end

