-- ==== Sys2Proof/Laws/Ops.lean ====
section
/-! SUPPORT. What each shared operation of a meaning can do, said once: the check phase, the cancellation poll, the end
with a big result, and the fault's frame. -/

namespace Sys2Proof.Machine

theorem firstFault_nil : firstFault [] = none := rfl

theorem firstFault_true (c : FaultCode) (l : List (Bool × FaultCode)) : firstFault ((true, c) :: l) = some c := rfl

theorem firstFault_false (c : FaultCode) (l : List (Bool × FaultCode)) : firstFault ((false, c) :: l) = firstFault l := rfl

/-- No check holds exactly when every one of them is false. -/
theorem firstFault_eq_none (l : List (Bool × FaultCode)) : firstFault l = none ↔ ∀ x ∈ l, x.1 = false := by
  induction l with
  | nil => simp [firstFault]
  | cons x l ih =>
    obtain ⟨p, c⟩ := x
    cases p <;> simp [firstFault, ih]

/-- A named fault is the code of one of the checks that hold. -/
theorem firstFault_mem {l : List (Bool × FaultCode)} {c : FaultCode} (h : firstFault l = some c) : (true, c) ∈ l := by
  induction l with
  | nil => simp [firstFault] at h
  | cons x l ih =>
    obtain ⟨p, d⟩ := x
    cases p
    · exact List.mem_cons_of_mem _ (ih h)
    · simp only [firstFault, if_true, Option.some.injEq] at h
      subst h
      exact List.mem_cons_self

/-- The check phase answers the first fault, or goes on. -/
theorem State.guarded_cases (s : State) (opc : Byte) (checks : List (Bool × FaultCode)) (k : Result) :
    (∃ c, firstFault checks = some c ∧ s.guarded opc checks k = .next (s.failWith opc c)) ∨
      (firstFault checks = none ∧ s.guarded opc checks k = k) := by
  unfold State.guarded
  cases h : firstFault checks with
  | none => exact .inr ⟨rfl, rfl⟩
  | some c => exact .inl ⟨c, rfl, rfl⟩

theorem State.guarded_pass {s : State} {opc : Byte} {checks : List (Bool × FaultCode)} {k : Result}
    (h : firstFault checks = none) : s.guarded opc checks k = k := by
  simp [State.guarded, h]

theorem State.guarded_fault {s : State} {opc : Byte} {checks : List (Bool × FaultCode)} {k : Result} {c : FaultCode}
    (h : firstFault checks = some c) : s.guarded opc checks k = .next (s.failWith opc c) := by
  simp [State.guarded, h]

/-- A poll ends the command when a cancel is pending, and otherwise goes on. -/
theorem State.poll_cases (s : State) (k : Result) :
    (s.cancelPending = true ∧ s.poll k = .next s.cancelEnd) ∨ (s.cancelPending = false ∧ s.poll k = k) := by
  cases h : s.cancelPending <;> simp [State.poll, h]

/-- An end with a big result writes it when it fits and is OVERFLOW otherwise. -/
theorem State.concludeBig_cases (s : State) (opc : Byte) (r : BReg) (v : Int) :
    (s.fits v = true ∧ s.concludeBig opc r v = .next (s.putBig r v).succeed) ∨
      (s.fits v = false ∧ s.concludeBig opc r v = .next (s.failWith opc .overflow)) := by
  cases h : s.fits v <;> simp [State.concludeBig, h]

theorem State.fits_iff (s : State) (v : Int) : s.fits v = true ↔ v.natAbs < radix ^ s.cfg.cap := by
  simp [State.fits]

/-- The primary flags are the ones R46 names. -/
theorem Flags.primary_spec (f : Flags) (v : Int) : FlagsFrom v f (f.primary v) := by
  simp [FlagsFrom, Flags.primary]

theorem State.hostSideKept_failWith (s : State) (opc : Byte) (c : FaultCode) : HostSideKept s (s.failWith opc c) :=
  ⟨rfl, rfl, rfl, rfl, rfl, rfl, rfl, rfl, rfl, rfl⟩

/-- Taking a fault changes STATUS, FAULT and PHASE only. -/
theorem State.failWith_spec (s : State) (opc : Byte) (c : FaultCode) : Faulted opc c s (s.failWith opc c) :=
  { phase := rfl, done := rfl, err := rfl, cancelled := rfl, faultCode := rfl, faultOpc := rfl
    host := s.hostSideKept_failWith opc c, cancelPending := rfl, flags := rfl, draws := rfl
    big := fun _ _ => rfl, banks := fun _ _ => rfl, vectors := fun _ _ => rfl, res := ⟨rfl, rfl⟩ }

/-- Ending by cancellation changes STATUS, FAULT and PHASE only. -/
theorem State.cancelEnd_spec (s : State) : Cancelled s s.cancelEnd :=
  { phase := rfl, done := rfl, err := rfl, cancelled := rfl, faultCode := rfl, faultOpc := rfl, cancelPending := rfl
    host := ⟨rfl, rfl, rfl, rfl, rfl, rfl, rfl, rfl, rfl, rfl⟩, flags := rfl, draws := rfl
    big := fun _ _ => rfl, banks := fun _ _ => rfl, vectors := fun _ _ => rfl, res := ⟨rfl, rfl⟩ }

/-- An end with a big result and its flags writes that register and those flags only. -/
theorem State.putBig_succeed_spec (s : State) (d : BReg) (v : Int) : WritesBig d v s (s.putBig d v).succeed :=
  { ended :=
      { host := ⟨rfl, rfl, rfl, rfl, rfl, rfl, rfl, rfl, rfl, rfl⟩, cancelPending := rfl, phase := rfl, done := rfl
        err := rfl, cancelled := rfl, faultCode := rfl, faultOpc := rfl }
    result := by simp
    draws := rfl
    flags := Flags.primary_spec s.flags v
    big := fun r hr => by
      have h : r ≠ d := by simpa using hr
      have e := s.setBig_other v h
      simpa using e
    banks := fun _ _ => rfl
    vectors := fun _ _ => rfl
    res := ⟨rfl, rfl⟩ }

/-- CRT reads its operands where R290 lays them out. -/
theorem KeyAt.crtKey_eq {s : State} {a : BReg} {g : KeyGroup} {c p q dP dQ qInv : Int}
    (h : KeyAt s a g c p q dP dQ qInv) :
    s.crtKey a g = { c := c, p := p, q := q, dP := dP, dQ := dQ, qInv := qInv } := by
  simp only [State.crtKey, h.ciphertext, h.primeP (groupReg g 0) rfl, h.primeQ (groupReg g 1) rfl,
    h.exponentP (groupReg g 2) rfl, h.exponentQ (groupReg g 3) rfl, h.inverseQ (groupReg g 4) rfl]

/-- Moving on to a segment changes PHASE only. -/
theorem State.stopAt_spec (s : State) (w : Word) (n : Nat) : MovesOn n [] s (s.stopAt w n) :=
  { host := ⟨rfl, rfl, rfl, rfl, rfl, rfl, rfl, rfl, rfl, rfl⟩, cancelPending := rfl, done := rfl, err := rfl
    cancelled := rfl, faultCode := rfl, faultOpc := rfl, flags := rfl, draws := rfl
    big := fun _ _ => rfl, banks := fun _ _ => rfl, vectors := fun _ _ => rfl, res := ⟨rfl, rfl⟩
    phase := fun j h => by simp [State.stopAt, h] }

end Sys2Proof.Machine
end

