-- ==== Sys2Proof/Laws/PerInstr.lean ====
section
/-! SUPPORT. The family OpcodeByte: bits 31:24 of an encoded command are its opcode of R104, which is the byte FAULT.OPC
records (R314). One lemma per constructor. -/

namespace Sys2Proof.Laws.OpcodeByte

/-- The top byte of the word of `i` is the opcode of `i`. -/
def Statement (i : Instr) : Prop := opcodeByte (encode i) = BitVec.ofNat 8 i.opcode

theorem nop : Statement .nop := opcodeByte_pack (by decide) (by decide) (by decide) (by decide) (by decide) (by decide) (by decide)

theorem clr (d : BReg) : Statement (.clr d) := opcodeByte_pack (by decide) d.isLt (by decide) (by decide) (by decide) (by decide) (by decide)

theorem setone (d : BReg) : Statement (.setone d) := opcodeByte_pack (by decide) d.isLt (by decide) (by decide) (by decide) (by decide) (by decide)

theorem mov (d : BReg) (a : BReg) : Statement (.mov d a) := opcodeByte_pack (by decide) d.isLt a.isLt (by decide) (by decide) (by decide) (by decide)

theorem setu64 (d : BReg) : Statement (.setu64 d) := opcodeByte_pack (by decide) d.isLt (by decide) (by decide) (by decide) (by decide) (by decide)

theorem getu64 (a : BReg) : Statement (.getu64 a) := opcodeByte_pack (by decide) (by decide) a.isLt (by decide) (by decide) (by decide) (by decide)

theorem test (a : BReg) : Statement (.test a) := opcodeByte_pack (by decide) (by decide) a.isLt (by decide) (by decide) (by decide) (by decide)

theorem cmp (a : BReg) (b : BReg) : Statement (.cmp a b) := opcodeByte_pack (by decide) (by decide) a.isLt b.isLt (by decide) (by decide) (by decide)

theorem shl (d : BReg) (a : BReg) : Statement (.shl d a) := opcodeByte_pack (by decide) d.isLt a.isLt (by decide) (by decide) (by decide) (by decide)

theorem shr (d : BReg) (a : BReg) : Statement (.shr d a) := opcodeByte_pack (by decide) d.isLt a.isLt (by decide) (by decide) (by decide) (by decide)

theorem addu64 (d : BReg) (a : BReg) : Statement (.addu64 d a) := opcodeByte_pack (by decide) d.isLt a.isLt (by decide) (by decide) (by decide) (by decide)

theorem subu64 (d : BReg) (a : BReg) : Statement (.subu64 d a) := opcodeByte_pack (by decide) d.isLt a.isLt (by decide) (by decide) (by decide) (by decide)

theorem rndodd (d : BReg) : Statement (.rndodd d) := opcodeByte_pack (by decide) d.isLt (by decide) (by decide) (by decide) (by decide) (by decide)

theorem add (d : BReg) (a : BReg) (b : BReg) : Statement (.add d a b) := opcodeByte_pack (by decide) d.isLt a.isLt b.isLt (by decide) (by decide) (by decide)

theorem sub (d : BReg) (a : BReg) (b : BReg) : Statement (.sub d a b) := opcodeByte_pack (by decide) d.isLt a.isLt b.isLt (by decide) (by decide) (by decide)

theorem mul (d : BReg) (a : BReg) (b : BReg) : Statement (.mul d a b) := opcodeByte_pack (by decide) d.isLt a.isLt b.isLt (by decide) (by decide) (by decide)

theorem sqr (d : BReg) (a : BReg) : Statement (.sqr d a) := opcodeByte_pack (by decide) d.isLt a.isLt (by decide) (by decide) (by decide) (by decide)

theorem div (d : BReg) (a : BReg) (b : BReg) (c : BReg) : Statement (.div d a b c) := opcodeByte_pack (by decide) d.isLt a.isLt b.isLt c.isLt (by decide) (by decide)

theorem sdiv (d : BReg) (a : BReg) : Statement (.sdiv d a) := opcodeByte_pack (by decide) d.isLt a.isLt (by decide) (by decide) (by decide) (by decide)

theorem rem32 (a : BReg) : Statement (.rem32 a) := opcodeByte_pack (by decide) (by decide) a.isLt (by decide) (by decide) (by decide) (by decide)

theorem rem64 (a : BReg) : Statement (.rem64 a) := opcodeByte_pack (by decide) (by decide) a.isLt (by decide) (by decide) (by decide) (by decide)

theorem gcd (d : BReg) (a : BReg) (b : BReg) : Statement (.gcd d a b) := opcodeByte_pack (by decide) d.isLt a.isLt b.isLt (by decide) (by decide) (by decide)

theorem inv (d : BReg) (a : BReg) (b : BReg) : Statement (.inv d a b) := opcodeByte_pack (by decide) d.isLt a.isLt b.isLt (by decide) (by decide) (by decide)

theorem invse (d : BReg) (a : BReg) : Statement (.invse d a) := opcodeByte_pack (by decide) d.isLt a.isLt (by decide) (by decide) (by decide) (by decide)

theorem smallfact (a : BReg) : Statement (.smallfact a) := opcodeByte_pack (by decide) (by decide) a.isLt (by decide) (by decide) (by decide) (by decide)

theorem isqrt (d : BReg) (a : BReg) : Statement (.isqrt d a) := opcodeByte_pack (by decide) d.isLt a.isLt (by decide) (by decide) (by decide) (by decide)

theorem modexp (d : BReg) (a : BReg) (b : BReg) (c : BReg) (t : BankNo) (u : Use) : Statement (.modexp d a b c t u) := opcodeByte_pack (by decide) d.isLt a.isLt b.isLt c.isLt t.isLt u.bit_lt

theorem fermat (a : BReg) (t : BankNo) : Statement (.fermat a t) := opcodeByte_pack (by decide) (by decide) a.isLt (by decide) (by decide) t.isLt (by decide)

theorem fermat1 (a : BReg) (t : BankNo) : Statement (.fermat1 a t) := opcodeByte_pack (by decide) (by decide) a.isLt (by decide) (by decide) t.isLt (by decide)

theorem tblbuild (a : BReg) (t : BankNo) : Statement (.tblbuild a t) := opcodeByte_pack (by decide) (by decide) a.isLt (by decide) (by decide) t.isLt (by decide)

theorem reduce (d : BReg) (a : BReg) (t : BankNo) : Statement (.reduce d a t) := opcodeByte_pack (by decide) d.isLt a.isLt (by decide) (by decide) t.isLt (by decide)

theorem rvfrom (d : VReg) (a : BReg) : Statement (.rvfrom d a) := opcodeByte_pack (by decide) (d.isLt.trans (by decide)) a.isLt (by decide) (by decide) (by decide) (by decide)

theorem rvadd (d : VReg) (a : VReg) (b : VReg) : Statement (.rvadd d a b) := opcodeByte_pack (by decide) (d.isLt.trans (by decide)) (a.isLt.trans (by decide)) (b.isLt.trans (by decide)) (by decide) (by decide) (by decide)

theorem rvsub (d : VReg) (a : VReg) (b : VReg) : Statement (.rvsub d a b) := opcodeByte_pack (by decide) (d.isLt.trans (by decide)) (a.isLt.trans (by decide)) (b.isLt.trans (by decide)) (by decide) (by decide) (by decide)

theorem rvmul (d : VReg) (a : VReg) (b : VReg) : Statement (.rvmul d a b) := opcodeByte_pack (by decide) (d.isLt.trans (by decide)) (a.isLt.trans (by decide)) (b.isLt.trans (by decide)) (by decide) (by decide) (by decide)

theorem crt (d : BReg) (a : BReg) (g : KeyGroup) (u : Use) : Statement (.crt d a g u) := opcodeByte_pack (by decide) d.isLt a.isLt (g.isLt.trans (by decide)) (by decide) (by decide) u.bit_lt

end Sys2Proof.Laws.OpcodeByte
end

