-- ==== Sys2Proof/Tests/Slice0.lean ====
section
/-! SUPPORT. Tests: the checks of WellFormed and of the decoder refuse ill-formed terms and words; every constructor's word,
written out from R101 and R104, decodes; one step of each command against 95_test_vectors.md; and a witness for every
statement with hypotheses. "V42.1" is that row of 95_test_vectors.md. -/

namespace Sys2Proof.Tests

open Sys2Proof Sys2Proof.Machine

-- The kernel evaluations below run one after another: each in a thread of its own is more threads than 22 GiB hold.
set_option Elab.async false

/-! ### Words -/

/-- R105(e): quotient and remainder in one register. -/
theorem test_wellFormed_refuses_div : (Instr.div 1 2 3 1).wellFormed = false := by decide

theorem test_wellFormed_accepts_div : (Instr.div 1 2 3 4).wellFormed = true := by decide

/-- Each check of R105 refuses a word, by name. V41.12 and section 2.6 of 95_test_vectors.md give two of them. -/
theorem test_decode_refusals :
    decode 0x0D000000#32 = .error .reservedOpcode ∧ decode 0x00000001#32 = .error .unusedField ∧
      decode 0x01510000#32 = .error .unusedField ∧ decode 0x10123100#32 = .error .unusedField ∧
      decode 0x40900040#32 = .ok (.crt 9 0 0 .reuse) ∧ decode 0x40900080#32 = .error .unusedField ∧
      decode 0x38400000#32 = .error .vectorField ∧ decode 0x39004000#32 = .error .vectorField ∧
      decode 0x4090C000#32 = .error .keyGroup ∧ decode 0x18201200#32 = .error .sameDestination := by decide

/-- The families of 40_bigint.md. -/
theorem test_decode_register_words :
    decode 0x00000000#32 = .ok .nop ∧ decode 0x01500000#32 = .ok (.clr 5) ∧ decode 0x02000000#32 = .ok (.setone 0) ∧
      decode 0x03270000#32 = .ok (.mov 2 7) ∧ decode 0x04300000#32 = .ok (.setu64 3) ∧
      decode 0x05010000#32 = .ok (.getu64 1) ∧ decode 0x06040000#32 = .ok (.test 4) ∧
      decode 0x07012000#32 = .ok (.cmp 1 2) ∧ decode 0x08210000#32 = .ok (.shl 2 1) ∧
      decode 0x09210000#32 = .ok (.shr 2 1) ∧ decode 0x0A210000#32 = .ok (.addu64 2 1) ∧
      decode 0x0B210000#32 = .ok (.subu64 2 1) ∧ decode 0x0C400000#32 = .ok (.rndodd 4) := by decide

/-- The families of 41_division.md and 42_arith.md. -/
theorem test_decode_arithmetic_words :
    decode 0x18201300#32 = .ok (.div 2 0 1 3) ∧ decode 0x19210000#32 = .ok (.sdiv 2 1) ∧
      decode 0x1A010000#32 = .ok (.rem32 1) ∧ decode 0x1B010000#32 = .ok (.rem64 1) ∧
      decode 0x10123000#32 = .ok (.add 1 2 3) ∧ decode 0x11123000#32 = .ok (.sub 1 2 3) ∧
      decode 0x1219A000#32 = .ok (.mul 1 9 10) ∧ decode 0x13010000#32 = .ok (.sqr 0 1) ∧
      decode 0x20501000#32 = .ok (.gcd 5 0 1) ∧ decode 0x21604000#32 = .ok (.inv 6 0 4) ∧
      decode 0x22210000#32 = .ok (.invse 2 1) ∧ decode 0x23000000#32 = .ok (.smallfact 0) ∧
      decode 0x24100000#32 = .ok (.isqrt 1 0) := by decide

/-- The families of 43_modexp.md to 46_crt.md. -/
theorem test_decode_sequencer_words :
    decode 0x280123C0#32 = .ok (.modexp 0 1 2 3 1 .reuse) ∧ decode 0x28F12300#32 = .ok (.modexp 15 1 2 3 0 .fresh) ∧
      decode 0x29030080#32 = .ok (.fermat 3 1) ∧ decode 0x2A0E0000#32 = .ok (.fermat1 14 0) ∧
      decode 0x30010000#32 = .ok (.tblbuild 1 0) ∧ decode 0x31210080#32 = .ok (.reduce 2 1 1) ∧
      decode 0x383F0000#32 = .ok (.rvfrom 3 15) ∧ decode 0x39012000#32 = .ok (.rvadd 0 1 2) ∧
      decode 0x3A123000#32 = .ok (.rvsub 1 2 3) ∧ decode 0x3B201000#32 = .ok (.rvmul 2 0 1) ∧
      decode 0x4090A000#32 = .ok (.crt 9 0 10 .fresh) ∧ decode 0x40F1B040#32 = .ok (.crt 15 1 11 .reuse) := by decide

/-- The decoder's other name, on a word of the table and on one that is none. -/
theorem test_decodeTableWord :
    decodeTableWord 32 0x07012000 = some (.cmp 1 2) ∧ decodeTableWord 32 0x0E000000 = none := by decide

/-! ### Small states -/

/-- The smallest capacity with the shortest ROM it allows, and a block that is not at address 0. -/
def small : Config := { cap := 12, primeCount := 24, coreBase := 0x1000 }

/-- A capacity of 16 digits, as some vectors ask. -/
def wide : Config := { cap := 16, primeCount := 32, coreBase := 0x1000 }

/-- After initialisation, with `b1 = x` and `b2 = y`. -/
def idle (c : Config) (x y : Int) : State := ((State.resetOf c).endInit.setBig 1 x).setBig 2 y

/-- The scalar operands. -/
def withArgs (s : State) (lo hi : Word) : State := { s with arg0 := lo, arg1 := hi }

/-- The command `w` runs and its next core step is segment `n`. -/
def running (n : Nat) (w : Word) (s : State) : State :=
  { s.accept w with phase := .run { word := w, snap := s.b, seg := n } }

/-- The state one step later. -/
def oneStep (s : State) : State :=
  match step s with
  | .next t => t
  | .fault _ => s
  | .refused _ => s

/-- The state after the one core step of command `w`, accepted in `s`. -/
def ran (w : Word) (s : State) : State := oneStep (s.accept w)

/-- FAULT after the one core step of command `w`. -/
def faultOf (w : Word) (s : State) : Word := (ran w s).faultWord

/-- STATUS[24:16] after the one core step of command `w`. -/
def flagsOf (w : Word) (s : State) : Nat := (ran w s).flags.field

/-! ### Register commands -/

/-- V40.25. -/
theorem test_nop :
    (ran 0x00000000#32 (idle small 7 8)).done = true ∧ (ran 0x00000000#32 (idle small 7 8)).cmdCount = 1#32 := by
  decide +kernel

/-- V40.1 with b1: flags Z and F64. -/
theorem test_clr : (ran 0x01100000#32 (idle small (-7) 0)).b[1] = 0 ∧ flagsOf 0x01100000#32 (idle small (-7) 0) = 9 := by
  decide +kernel

/-- V40.2: flags ONE and F64. -/
theorem test_setone : (ran 0x02000000#32 (idle small 0 0)).b[0] = 1 ∧ flagsOf 0x02000000#32 (idle small 0 0) = 12 := by
  decide +kernel

/-- V40.3 from b1: flags N and F64. -/
theorem test_mov :
    (ran 0x03210000#32 (idle small (-(2 ^ 40)) 0)).b[2] = -(2 ^ 40) ∧
      flagsOf 0x03210000#32 (idle small (-(2 ^ 40)) 0) = 10 := by decide +kernel

/-- V40.4. -/
theorem test_setu64 : (ran 0x04300000#32 (withArgs (idle small 0 0) 5#32 1#32)).b[3] = 4294967301 := by decide +kernel

/-- V40.5: F64 is 0, N is 1. -/
theorem test_getu64_low :
    (ran 0x05010000#32 (idle small (-(2 ^ 64 + 3)) 0)).res0 = 3#32 ∧
      (ran 0x05010000#32 (idle small (-(2 ^ 64 + 3)) 0)).res1 = 0#32 ∧
      flagsOf 0x05010000#32 (idle small (-(2 ^ 64 + 3)) 0) = 2 := by decide +kernel

/-- V40.6. -/
theorem test_getu64_full :
    (ran 0x05010000#32 (idle small (2 ^ 64 - 1) 0)).res0 = 0xFFFFFFFF#32 ∧
      (ran 0x05010000#32 (idle small (2 ^ 64 - 1) 0)).res1 = 0xFFFFFFFF#32 := by decide +kernel

/-- V40.7, b1. -/
theorem test_test : flagsOf 0x06010000#32 (idle small 1 0) = 12 := by decide +kernel

/-- V40.8, V40.9. -/
theorem test_cmp :
    flagsOf 0x07012000#32 (idle small (-5) (-3)) = 0 ∧ flagsOf 0x07021000#32 (idle small (-5) (-3)) = 32 ∧
      flagsOf 0x07011000#32 (idle small (-5) (-3)) = 16 := by decide +kernel

/-- V40.10, V40.12. -/
theorem test_shl :
    (ran 0x08210000#32 (withArgs (idle small 1 0) 383#32 0#32)).b[2] = 2 ^ 383 ∧
      (ran 0x08210000#32 (withArgs (idle small (-3) 0) 1#32 0#32)).b[2] = -6 := by decide +kernel

/-- V40.11, V40.13. -/
theorem test_shl_overflow :
    faultOf 0x08210000#32 (withArgs (idle small 1 0) 384#32 0#32) = 0x00000804#32 ∧
      faultOf 0x08210000#32 (withArgs (idle small 0 0) 5000#32 0#32) = 0#32 := by decide +kernel

/-- V40.14, V40.15. -/
theorem test_shr :
    (ran 0x09210000#32 (withArgs (idle small (-5) 0) 1#32 0#32)).b[2] = -2 ∧
      (ran 0x09210000#32 (withArgs (idle small (-1) 9) 1#32 0#32)).b[2] = 0 := by decide +kernel

/-- V40.16, V40.17. -/
theorem test_addu64 :
    (ran 0x0A210000#32 (withArgs (idle small (2 ^ 64 - 1) 0) 1#32 0#32)).b[2] = 2 ^ 64 ∧
      faultOf 0x0A210000#32 (withArgs (idle small (2 ^ 384 - 1) 0) 1#32 0#32) = 0x00000A04#32 := by decide +kernel

/-- V40.20: flags N and F64. -/
theorem test_subu64 :
    (ran 0x0B210000#32 (withArgs (idle small 3 0) 5#32 0#32)).b[2] = -2 ∧
      flagsOf 0x0B210000#32 (withArgs (idle small 3 0) 5#32 0#32) = 10 := by decide +kernel

/-- V40.21 to V40.23: the two forcings on given words. -/
theorem test_rndodd_words :
    ofWords (forceOddFull [0#32]) = 0x80000001 ∧ ofWords (forceOddFull [0x10#32, 1#32]) = 0x8000000100000011 ∧
      ofWords (forceOddFull [0xFFFFFFFE#32, 0#32, 0x12345678#32]) = 0x9234567800000000FFFFFFFF := by decide +kernel

/-- V40.24: no word is drawn. -/
theorem test_rndodd_refusals :
    faultOf 0x0C400000#32 (withArgs (idle small 0 0) 0#32 0#32) = 0x00000C03#32 ∧
      faultOf 0x0C400000#32 (withArgs (idle small 0 0) 13#32 0#32) = 0x00000C03#32 ∧
      (ran 0x0C400000#32 (withArgs (idle small 0 0) 13#32 0#32)).draws = 0 ∧
      (ran 0x0C400000#32 (withArgs (idle small 0 0) 12#32 0#32)).draws = 12 := by decide +kernel

/-! ### Division -/

/-- V41.1 from b1, b2 to b0, b3. -/
theorem test_div :
    (ran 0x18012300#32 (idle small (2 ^ 64 + 5) (2 ^ 32 + 1))).b[0] = 4294967295 ∧
      (ran 0x18012300#32 (idle small (2 ^ 64 + 5) (2 ^ 32 + 1))).b[3] = 6 := by decide +kernel

/-- V41.10, V41.11. -/
theorem test_div_faults :
    faultOf 0x18012300#32 (idle small (-5) 0) = 0x00001802#32 ∧ faultOf 0x18012300#32 (idle small (-5) 3) = 0x00001803#32 := by
  decide +kernel

/-- V41.5, V41.6. -/
theorem test_sdiv :
    (ran 0x19210000#32 (withArgs (idle small (10 ^ 12) 0) 7#32 0#32)).b[2] = 142857142857 ∧
      (ran 0x19210000#32 (withArgs (idle small (10 ^ 12) 0) 7#32 0#32)).res0 = 1#32 ∧
      faultOf 0x19210000#32 (withArgs (idle small (10 ^ 12) 0) 0#32 0#32) = 0x00001902#32 := by decide +kernel

/-- V41.7: flags Z and F64. -/
theorem test_rem32 :
    (ran 0x1A010000#32 (withArgs (idle small 3233 0) 61#32 0#32)).res0 = 0#32 ∧
      flagsOf 0x1A010000#32 (withArgs (idle small 3233 0) 61#32 0#32) = 9 := by decide +kernel

/-- V41.8, V41.9. -/
theorem test_rem64 :
    (ran 0x1B010000#32 (withArgs (idle small (2 ^ 64) 0) 1#32 1#32)).res0 = 1#32 ∧
      (ran 0x1B010000#32 (withArgs (idle small (2 ^ 128) 0) 0xFFFFFFFF#32 0xFFFFFFFF#32)).res0 = 1#32 := by decide +kernel

/-- Traces T1 to T4 of 95_test_vectors.md: the long-division datapath. -/
theorem test_divider_datapath :
    longDivide (2 ^ 96 - 1) (2 ^ 33 + 1) = (0x7FFFFFFFC0000000, 0x3FFFFFFF) ∧
      longDivide (3 * 2 ^ 64 + 5) (3 * 2 ^ 32 + 7) = (4294967293, 8589934618) ∧
      longDivide 0xFFFFFFFFFFFFFFFFFFFFF48D 0x100000003 = (0xFFFFFFFD00000008, 0xFFFFF475) ∧
      leadingPosition (3 * 2 ^ 64 + 5) (3 * 2 ^ 32 + 7) = 0 := by decide +kernel

/-! ### Arithmetic and number theory -/

/-- V42.1, V42.2. -/
theorem test_add :
    (ran 0x10112000#32 (idle small (-5) 5)).b[1] = 0 ∧
      faultOf 0x10112000#32 (idle small (2 ^ 384 - 1) (2 ^ 384 - 1)) = 0x00001004#32 := by decide +kernel

/-- R191 by hand: 3 - 5. -/
theorem test_sub : (ran 0x11112000#32 (idle small 3 5)).b[1] = -2 := by decide +kernel

/-- V42.4, V42.5. -/
theorem test_mul :
    (ran 0x12112000#32 (idle small 61 53)).b[1] = 3233 ∧
      faultOf 0x12112000#32 (idle small (2 ^ 192) (2 ^ 192)) = 0x00001204#32 := by decide +kernel

/-- V42.6. -/
theorem test_sqr : (ran 0x13010000#32 (idle small (-(2 ^ 32)) 0)).b[0] = 2 ^ 64 := by decide +kernel

/-- V42.7, V42.9. -/
theorem test_gcd :
    (ran 0x20512000#32 (idle small 1071 462)).b[5] = 21 ∧ faultOf 0x20512000#32 (idle small 0 5) = 0x00002003#32 := by
  decide +kernel

/-- V42.10, V42.12. -/
theorem test_inv :
    (ran 0x21612000#32 (idle small 17 3120)).b[6] = 2753 ∧ (ran 0x21612000#32 (idle small 3120 17)).b[6] = 2 := by
  decide +kernel

/-- V42.15, V42.16. -/
theorem test_inv_faults :
    faultOf 0x21612000#32 (idle small 6 9) = 0x00002105#32 ∧ faultOf 0x21612000#32 (idle small 5 1) = 0x00002103#32 := by
  decide +kernel

/-- V42.17, V42.20. -/
theorem test_invse :
    (ran 0x22210000#32 (withArgs (idle small 60 0) 17#32 0#32)).b[2] = 53 ∧
      faultOf 0x22210000#32 (withArgs (idle small 9 0) 3#32 0#32) = 0x00002205#32 := by decide +kernel

/-- V42.21, V42.22: FOUND. -/
theorem test_smallfact :
    (ran 0x23010000#32 (idle small 341 0)).res0 = 11#32 ∧ (ran 0x23010000#32 (idle small 3233 0)).res0 = 53#32 ∧
      flagsOf 0x23010000#32 (idle small 341 0) = 128 := by decide +kernel

/-- V42.25, V42.26. -/
theorem test_smallfact_corners :
    (ran 0x23010000#32 (idle small 0 0)).res0 = 2#32 ∧ (ran 0x23010000#32 (idle small 1 0)).res0 = 0#32 ∧
      flagsOf 0x23010000#32 (idle small 1 0) = 0 := by decide +kernel

/-- V42.28, V42.30. -/
theorem test_isqrt :
    (ran 0x24210000#32 (idle small (2 ^ 64 - 1) 0)).b[2] = 4294967295 ∧
      (ran 0x24210000#32 (idle small (2 ^ 64 - 1) 0)).flags.exact = false ∧
      (ran 0x24210000#32 (idle small ((2 ^ 100 + 1) ^ 2) 0)).b[2] = 2 ^ 100 + 1 ∧
      (ran 0x24210000#32 (idle small ((2 ^ 100 + 1) ^ 2) 0)).flags.exact = true := by decide +kernel

/-! ### Sequencers, one segment each -/

/-- V43.1 with b3 = 2753 beside b1 = 2790 and b2 = 3233: the last segment, after the table is built. -/
theorem test_modexp :
    (oneStep (running 2 0x28013200#32 (((idle small 2790 3233).setBig 3 2753).setBank 0 (Bank.build 3233)))).b[0] = 65 := by
  decide +kernel

/-- V43.6, V43.7, V43.8: b0 = m = 0; e < 0 with a stale bank; a stale bank. -/
theorem test_modexp_faults :
    faultOf 0x28912000#32 (idle small 5 5) = 0x00002802#32 ∧
      faultOf 0x28912140#32 (idle small 5 (-1)) = 0x00002803#32 ∧
      faultOf 0x28012140#32 ((idle small 7 5).setBank 0 (Bank.build 3233)) = 0x00002807#32 := by decide +kernel

/-- Section 2.4: 9 with the ROM of 24 primes, whose last prime is 89: 89^8 mod 9 = 1 and 83^8 mod 9 = 4. -/
theorem test_fermat_rounds :
    (oneStep (running 3 0x29010000#32 (withArgs ((idle small 9 0).setBank 0 (Bank.build 9)) 2#32 0#32))).segment = 4 ∧
      (oneStep (running 5 0x29010000#32 (withArgs ((idle small 9 0).setBank 0 (Bank.build 9)) 2#32 0#32))).res0 = 83#32 := by
  decide +kernel

/-- Section 2.4: c = 1; more rounds than the ROM has primes. -/
theorem test_fermat_faults :
    faultOf 0x29010000#32 (idle small 1 0) = 0x00002903#32 ∧
      faultOf 0x29010000#32 (withArgs (idle small 341 0) 25#32 0#32) = 0x00002903#32 := by decide +kernel

/-- Section 2.4: FERMAT1 on 341 with base 2 and base 3. -/
theorem test_fermat1 :
    (oneStep (running 3 0x2A010000#32 (withArgs ((idle small 341 0).setBank 0 (Bank.build 341)) 2#32 0#32))).flags.prime = true ∧
      (oneStep (running 3 0x2A010000#32 (withArgs ((idle small 341 0).setBank 0 (Bank.build 341)) 3#32 0#32))).res0 = 3#32 := by
  decide +kernel

/-- Section 2.5: the table of 3233. -/
theorem test_tblbuild :
    (ran 0x30010000#32 (idle small 3233 0)).tbl[0] =
      { valid := true, modulus := 3233, k := 1, len := 12
        entries := [1, 1155, 2029, 2803, 1232, 440, 619, 452, 1547, 2169, 2853, 788] } := by decide +kernel

/-- V44.2, V44.3. -/
theorem test_tblbuild_corners :
    faultOf 0x30010000#32 (idle small 0 0) = 0x00003002#32 ∧
      (ran 0x30010000#32 (idle small 1 0)).tbl[0].entries = List.replicate 12 0 := by decide +kernel

/-- V44.5, V44.6. -/
theorem test_reduce :
    (ran 0x31210000#32 ((idle small (2 ^ 40 + 7) 0).setBank 0 (Bank.build 3233))).b[2] = 295687 ∧
      (ran 0x31210000#32 ((idle small (2 ^ 384 - 1) 0).setBank 0 (Bank.build 3233))).b[2] = 69097433841960 := by
  decide +kernel

/-- V44.8, V44.9, V44.10. -/
theorem test_reduce_faults :
    faultOf 0x31210000#32 (idle small (-1) 0) = 0x00003103#32 ∧ faultOf 0x31210000#32 (idle small 1 0) = 0x00003107#32 ∧
      faultOf 0x31210000#32 ((idle wide (2 ^ 384) 0).setBank 0 (Bank.build 3233)) = 0x00003108#32 := by decide +kernel

/-- The residues of 3233 and 65 (section 2.6). -/
def residues3233 : List Nat := [1, 2, 3, 6, 10, 9, 3, 3, 13, 14, 9, 14, 35, 8, 37, 0, 47, 0, 17, 38, 21, 73, 79, 29]

def residues65 : List Nat := [1, 2, 0, 2, 10, 0, 14, 8, 19, 7, 3, 28, 24, 22, 18, 12, 6, 4, 65, 65, 65, 65, 65, 65]

/-- r0 and r1 hold the residues of 3233 and 65. -/
def vectors : State := ((idle small 3233 65).setVec 0 residues3233).setVec 1 residues65

theorem test_rvfrom : (ran 0x38010000#32 (idle small 3233 0)).rv[0] = residues3233 := by decide +kernel

theorem test_rvfrom_negative : faultOf 0x38010000#32 (idle small (-1) 0) = 0x00003803#32 := by decide +kernel

theorem test_rvadd :
    (ran 0x39201000#32 vectors).rv[2] =
      [0, 1, 3, 1, 9, 9, 0, 11, 9, 21, 12, 5, 18, 30, 8, 12, 53, 4, 15, 32, 13, 59, 61, 5] := by decide +kernel

theorem test_rvsub :
    (ran 0x3A210000#32 vectors).rv[2] =
      [0, 0, 2, 3, 0, 4, 11, 5, 6, 22, 25, 14, 30, 14, 28, 12, 18, 4, 48, 27, 44, 71, 69, 36] := by decide +kernel

theorem test_rvmul :
    (ran 0x3B201000#32 vectors).rv[2] =
      [1, 1, 0, 5, 1, 0, 8, 5, 17, 11, 27, 22, 20, 4, 8, 0, 46, 0, 33, 56, 51, 5, 72, 16] := by decide +kernel

/-- The key of section 2.7 in b10..b14, the ciphertext in b1, both tables built. -/
def keyed (c : Int) : State :=
  ((((((idle small c 0).setBig 10 61).setBig 11 53).setBig 12 53).setBig 13 49).setBig 14 38).setBank 0 (Bank.build 61)
    |>.setBank 1 (Bank.build 53)

/-- Section 2.7: 2790 and 2183. -/
theorem test_crt :
    (oneStep (running 3 0x4091A000#32 (keyed 2790))).b[9] = 65 ∧
      (oneStep (running 3 0x4091A000#32 (keyed 2183))).b[9] = 1234 := by decide +kernel

/-- R290 by hand: a zero Q is DIVIDE_BY_ZERO. -/
theorem test_crt_fault : faultOf 0x4091A000#32 ((keyed 2790).setBig 11 0) = 0x00004002#32 := by decide +kernel

/-- R105, V41.12: the illegal word's opcode is recorded. -/
theorem test_illegal : faultOf 0x18201200#32 (idle small 0 0) = 0x00001801#32 := by decide +kernel

/-! ### The host -/

/-- One event on the schedule. -/
def event (s : State) (e : Input) : State := oneStep { s with inputs := [e] }

/-- R64, R352: STATUS after reset and after initialisation. -/
theorem test_reset_status :
    State.reset.statusWord = 0x00000041#32 ∧ (oneStep State.reset).statusWord = 0#32 := by decide +kernel

/-- R49: PARAM0 and PARAM1 of CAP = 12, PRIME_COUNT = 16384. -/
theorem test_params :
    (event State.reset (.read 0x004 4)).readData = 0x2410000C#32 ∧
      (event State.reset (.read 0x008 4)).readData = 0x00184000#32 := by decide +kernel

/-- R80, R86: the second digit of b1 is read and WIDX moves on. -/
theorem test_window_read :
    (event { idle small (-(7 * 2 ^ 32)) 0 with wsel := 0x108#32, widx := 1#32 } (.read 0x1048 4)).readData = 7#32 ∧
      (event { idle small (-(7 * 2 ^ 32)) 0 with wsel := 0x108#32, widx := 1#32 } (.read 0x1048 4)).widx = 2#32 := by
  decide +kernel

/-- R80, R61: a digit and a sign are written. -/
theorem test_window_write :
    (event { idle small (-5) 0 with wsel := 0x100#32, widx := 1#32 } (.write 0x1048 4 3#32)).b[1] = -(3 * 2 ^ 32 + 5) ∧
      (event { idle small 5 0 with wsel := 0x100#32 } (.write 0x104C 4 0x80000000#32)).b[1] = -5 := by decide +kernel

/-- R322, R317(c): a cancel pending at the first safe point. -/
theorem test_cancel :
    (oneStep { running 1 0x2A010000#32 (idle small 341 0) with cancelPending := true }).statusWord = 0x0000000A#32 := by
  decide +kernel

/-- R120: DIV is written quotient, remainder, dividend, divisor; V41.1. -/
theorem test_statement_text :
    statementText (.div 2 0 1 3) = "div b2, b3, b0, b1" ∧ statementText (.crt 9 0 10 .fresh) = "crt b9, b0, b10, fresh" := by
  decide +kernel

/-- R123, S11. -/
theorem test_literals :
    readLiteral "1,234,567" = some 1234567 ∧ readLiteral "-5" = some (-5) ∧ readLiteral "0x10" = none ∧
      readLiteral "" = none := by decide +kernel

/-- R121: FERMAT without a literal runs 20 rounds; a 33-bit literal does not fit SHL. -/
theorem test_literal_writes :
    statementEvents small (.fermat 3 0) none 0 = some [.write 0x1014 4 20#32, .write 0x1010 4 0x29030000#32] ∧
      statementEvents small (.shl 2 1) (some (2 ^ 32)) 0 = none := by decide +kernel

/-- The state after the whole schedule `es`. -/
def after (s : State) (es : List Input) : State :=
  match core.run es.length { s with inputs := es } with
  | .next t => t
  | .fault _ => s
  | .refused _ => s

/-- VW.1. -/
theorem test_li :
    (after (idle small 7 7) (loadLiteral small 3 (-5) ++ [memWrite small 0x040 0x308#32, memRead small 0x04C])).readData =
        0x80000000#32 ∧
      (after (idle small 7 7) (loadLiteral small 3 (-5))).b[3] = -5 := by decide +kernel

/-- The next step runs the placed word, as the first after reset. -/
theorem test_withFetchWord : (oneStep (State.reset.withFetchWord 32 0x07012000)).flags.eq = true := by decide +kernel

/-! ### Witnesses: for each statement with hypotheses, concrete inputs that meet them, at the boundaries of its clauses -/

/-- The schedule of one event. -/
def due (s : State) (e : Input) : State := { s with inputs := [e] }

/-- A command runs: MODEXP of `b1^b3 mod b2` into b0, on bank 0. -/
def busyState : State := running 0 0x28013200#32 ((idle small 2790 3233).setBig 3 2753)

theorem witness_DecodeOfEncode : (Instr.div 4 6 7 5).wellFormed = true ∧ (Instr.crt 15 1 11 .reuse).wellFormed = true := by
  decide

theorem witness_EncodeOfDecode : decode 0x18467500#32 = .ok (.div 4 6 7 5) := by decide

theorem witness_LegalWordsDecodeOthersEnd :
    (due (running 0 0x38400000#32 (idle small 0 0)) .core).inputs = .core :: [] ∧
      (due (running 0 0x38400000#32 (idle small 0 0)) .core).phase =
        .run { word := 0x38400000#32, snap := (idle small 0 0).b, seg := 0 } ∧ legal 0x38400000#32 = false := by
  decide +kernel

/-- The ends of the reserved ranges of R106. -/
theorem witness_ReservedOpcodesIllegal :
    ∀ op ∈ [0x0D, 0x0F, 0x14, 0x17, 0x1C, 0x1F, 0x25, 0x27, 0x2B, 0x2F, 0x32, 0x37, 0x3C, 0x3F, 0x41, 0xEF, 0xF0, 0xFF],
      op = (BitVec.ofNat 32 (op * 2 ^ 24 + 0xABC)).toNat / 2 ^ 24 ∧
        ((0x0D ≤ op ∧ op ≤ 0x0F) ∨ (0x14 ≤ op ∧ op ≤ 0x17) ∨ (0x1C ≤ op ∧ op ≤ 0x1F) ∨ (0x25 ≤ op ∧ op ≤ 0x27) ∨
          (0x2B ≤ op ∧ op ≤ 0x2F) ∨ (0x32 ≤ op ∧ op ≤ 0x37) ∨ (0x3C ≤ op ∧ op ≤ 0x3F) ∨ (0x41 ≤ op ∧ op ≤ 0xEF) ∨
          (0xF0 ≤ op ∧ op ≤ 0xFF)) := by decide

theorem witness_StepRunsDecodedCommand :
    busyState.phase = .run { word := 0x28013200#32, snap := busyState.b, seg := 0 } ∧
      decode 0x28013200#32 = .ok (.modexp 0 1 3 2 0 .fresh) ∧ busyState.inputs = [] ∧
      (due busyState .core).inputs = .core :: [] := by decide +kernel

theorem witness_AcceptStartsTheCommand :
    WritesNext (due (idle small 1 2) (.write 0x1010 4 0x07012000#32)) 0x010 0x07012000#32 [] ∧
      (due (idle small 1 2) (.write 0x1010 4 0x07012000#32)).busy = false ∧
      WritesNext (due busyState (.write 0x1010 4 0x07012000#32)) 0x010 0x07012000#32 [] ∧
      (due busyState (.write 0x1010 4 0x07012000#32)).busy = true := ⟨rfl, rfl, rfl, rfl⟩

theorem witness_BusyRefusesOtherAccesses :
    busyState.busy = true ∧ ReadsNext (due busyState (.read 0x1000 4)) 0x000 [] ∧
      ReadsNext (due busyState (.read 0x1FFC 4)) 0xFFC [] ∧
      WritesNext (due busyState (.write 0x101C 4 1#32)) 0x01C 1#32 [] ∧
      WritesNext (due busyState (.write 0x1048 4 1#32)) 0x048 1#32 [] := ⟨rfl, rfl, rfl, rfl, rfl⟩

theorem witness_IdAndParamRegisters :
    busyState.cfg.Valid ∧ ReadsNext (due busyState (.read 0x1000 4)) 0x000 [] ∧
      ReadsNext (due busyState (.read 0x1004 4)) 0x004 [] ∧ ReadsNext (due busyState (.read 0x1008 4)) 0x008 [] ∧
      WritesNext (due busyState (.write 0x1008 4 1#32)) 0x008 1#32 [] := ⟨by decide, rfl, rfl, rfl, rfl⟩

theorem witness_BadAccessesOnlySetHosterr :
    (due busyState (.read 0x1050 4)).inputs = .read (busyState.cfg.coreBase + 0x050) 4 :: [] ∧
      (due busyState (.read 0x1002 2)).inputs = .read (busyState.cfg.coreBase + 0x002) 2 :: [] ∧
      (due busyState (.write 0x1FFF 4 5#32)).inputs = .write (busyState.cfg.coreBase + 0xFFF) 4 5#32 :: [] :=
  ⟨rfl, rfl, rfl⟩

theorem witness_CtrlWritesAct :
    WritesNext (due busyState (.write 0x101C 4 0x7FFFFFFF#32)) 0x01C 0x7FFFFFFF#32 [] ∧
      (0x7FFFFFFF#32 : Word).getLsbD 31 = false ∧
      WritesNext (due busyState (.write 0x101C 4 0x80000001#32)) 0x01C 0x80000001#32 [] ∧
      (0x80000001#32 : Word).getLsbD 31 = true := ⟨rfl, rfl, rfl, rfl⟩

theorem witness_ResetLeavesSpecValues :
    (due busyState .rst).inputs = .rst :: [] ∧
      WritesNext (due busyState (.write 0x101C 4 0x80000000#32)) 0x01C 0x80000000#32 [] ∧
      (0x80000000#32 : Word).getLsbD 31 = true := ⟨rfl, rfl, rfl⟩

theorem witness_InitialisationEnds :
    (State.resetOf small).phase = .init ∧ (due (State.resetOf small) .core).inputs = .core :: [] ∧
      (State.resetOf small).inputs = [] ∧ WritesNext (due (State.resetOf small) (.write 0x1010 4 0#32)) 0x010 0#32 [] :=
  ⟨rfl, rfl, rfl, rfl⟩

/-- The bit numbers at the ends of the reserved ranges of STATUS, and the four accesses, on a busy core. -/
theorem witness_StatusAndFaultWords :
    (∀ n ∈ [7, 15, 25, 31], (7 ≤ n ∧ n ≤ 15) ∨ 25 ≤ n) ∧ ReadsNext (due busyState (.read 0x1020 4)) 0x020 [] ∧
      ReadsNext (due busyState (.read 0x1024 4)) 0x024 [] ∧
      WritesNext (due busyState (.write 0x1020 4 1#32)) 0x020 1#32 [] ∧
      WritesNext (due busyState (.write 0x1024 4 1#32)) 0x024 1#32 [] := ⟨by decide, rfl, rfl, rfl, rfl⟩

theorem witness_InterruptFollowsCompletion :
    (running 0 0x01100000#32 (idle small 7 0)).phase =
        .run { word := 0x01100000#32, snap := (idle small 7 0).b, seg := 0 } ∧
      (∃ t, exec (.clr 1) (running 0 0x01100000#32 (idle small 7 0)) = .next t ∧ t.phase = .idle) ∧
      (∃ t, step (due (idle small 1 2) (.write 0x101C 4 4#32)) = .next t) ∧
      WritesNext (due (idle small 1 2) (.write 0x101C 4 4#32)) 0x01C 4#32 [] ∧
      WritesNext (due (idle small 1 2) (.write 0x1010 4 4#32)) 0x010 4#32 [] :=
  ⟨rfl, ⟨_, rfl, rfl⟩, ⟨_, rfl⟩, rfl, rfl⟩

/-- The window on element `i` under selector `w`, with bank 0 built for 3233. -/
def window (w i : Word) : State := { (idle small (-5) 3).setBank 0 (Bank.build 3233) with wsel := w, widx := i }

theorem witness_WindowBigRegisterDigits :
    (window 0x100#32 11#32).phase = .idle ∧ (window 0x100#32 11#32).wsel.toNat % 8 = 0 ∧
      (1 : BReg).val = (window 0x100#32 11#32).wsel.toNat / 2 ^ 8 % 16 ∧
      (window 0x100#32 11#32).b[1].natAbs < radix ^ (window 0x100#32 11#32).cfg.cap ∧
      (window 0x100#32 11#32).widx.toNat < 12 ∧ 12 ≤ (window 0x100#32 12#32).widx.toNat ∧
      ReadsNext (due (window 0x100#32 11#32) (.read 0x1048 4)) 0x048 [] ∧
      WritesNext (due (window 0x100#32 12#32) (.write 0x1048 4 9#32)) 0x048 9#32 [] :=
  ⟨by decide, by decide, by decide, by decide +kernel, by decide, by decide, rfl, rfl⟩

/-- Every space at the ends of its register numbers. -/
theorem witness_WindowMetadata :
    (window 0xF00#32 0#32).phase = .idle ∧ (15 : BReg).val = (window 0xF00#32 0#32).wsel.toNat / 2 ^ 8 % 16 ∧
      (window 0x101#32 0#32).wsel.toNat % 8 = 1 ∧ (window 0x202#32 0#32).wsel.toNat % 8 = 2 ∧
      (2 : BReg).val = (window 0x202#32 0#32).wsel.toNat / 2 ^ 8 % 16 ∧ (window 0x303#32 0#32).wsel.toNat % 8 = 3 ∧
      (3 : BReg).val = (window 0x303#32 0#32).wsel.toNat / 2 ^ 8 % 16 ∧ (window 0x004#32 0#32).wsel.toNat % 8 = 4 ∧
      5 ≤ (window 0x005#32 0#32).wsel.toNat % 8 ∧ ReadsNext (due (window 0xF00#32 0#32) (.read 0x104C 4)) 0x04C [] ∧
      WritesNext (due (window 0xF00#32 0#32) (.write 0x104C 4 9#32)) 0x04C 9#32 [] :=
  ⟨by decide, by decide, by decide, by decide, by decide, by decide, by decide, by decide, by decide, rfl, rfl⟩

/-- The table of 3233 has 12 entries: entry 11 is the last; bank 1 is invalid. -/
theorem witness_WindowReadsBanks :
    (0 : BankNo).val = (window 0x000B0001#32 11#32).wsel.toNat / 2 ^ 8 % 16 ∧
      (window 0x000B0001#32 11#32).wsel.toNat % 8 = 1 ∧ (window 0x000B0001#32 11#32).tbl[(0 : BankNo)].valid = true ∧
      (window 0x000B0001#32 11#32).wsel.toNat / 2 ^ 16 < (window 0x000B0001#32 11#32).tbl[(0 : BankNo)].len ∧
      (window 0x000C0001#32 0#32).tbl[(0 : BankNo)].len ≤ (window 0x000C0001#32 0#32).wsel.toNat / 2 ^ 16 ∧
      (1 : BankNo).val = (window 0x101#32 0#32).wsel.toNat / 2 ^ 8 % 16 ∧
      (window 0x101#32 0#32).tbl[(1 : BankNo)].valid = false ∧ (window 0x102#32 11#32).wsel.toNat % 8 = 2 ∧
      ReadsNext (due (window 0x000B0001#32 11#32) (.read 0x1048 4)) 0x048 [] ∧
      WritesNext (due (window 0x000B0001#32 11#32) (.write 0x1048 4 9#32)) 0x048 9#32 [] :=
  ⟨by decide, by decide, by decide +kernel, by decide +kernel, by decide +kernel, by decide, by decide +kernel, by decide,
    rfl, rfl⟩

/-- Slot 23 is the last of 24, and prime 23 the last of the small ROM. -/
theorem witness_WindowReadsVectorsAndRom :
    (window 0x303#32 23#32).phase = .idle ∧ (3 : VReg).val = (3 : BReg).val ∧
      (3 : BReg).val = (window 0x303#32 23#32).wsel.toNat / 2 ^ 8 % 16 ∧ (window 0x303#32 23#32).wsel.toNat % 8 = 3 ∧
      (window 0x303#32 23#32).widx.toNat < 2 * small.cap ∧ 2 * small.cap ≤ (window 0x303#32 24#32).widx.toNat ∧
      (window 0x004#32 23#32).wsel.toNat % 8 = 4 ∧ (window 0x004#32 23#32).widx.toNat < small.primeCount ∧
      small.primeCount ≤ (window 0x004#32 24#32).widx.toNat ∧
      ReadsNext (due (window 0x303#32 23#32) (.read 0x1048 4)) 0x048 [] ∧
      WritesNext (due (window 0x303#32 23#32) (.write 0x1048 4 9#32)) 0x048 9#32 [] :=
  ⟨by decide, by decide, by decide, by decide, by decide, by decide, by decide, by decide, by decide, rfl, rfl⟩

theorem witness_WindowAutoIncrement :
    (window 0x108#32 0xFFFFFFFF#32).busy = false ∧
      (∃ t, step (due (window 0x108#32 0xFFFFFFFF#32) (.read 0x1048 4)) = .next t) ∧
      ReadsNext (due (window 0x108#32 0xFFFFFFFF#32) (.read 0x1048 4)) 0x048 [] ∧
      WritesNext (due (window 0x108#32 0xFFFFFFFF#32) (.write 0x104C 4 1#32)) 0x04C 1#32 [] := ⟨rfl, ⟨_, rfl⟩, rfl, rfl⟩

theorem witness_PlainHostRegisters :
    (idle small 1 2).busy = false ∧ ReadsNext (due (idle small 1 2) (.read 0x1010 4)) 0x010 [] ∧
      ReadsNext (due (idle small 1 2) (.read 0x1014 4)) 0x014 [] ∧ ReadsNext (due busyState (.read 0x100C 4)) 0x00C [] ∧
      WritesNext (due busyState (.write 0x100C 4 1#32)) 0x00C 1#32 [] ∧
      ReadsNext (due busyState (.read 0x1030 4)) 0x030 [] ∧
      WritesNext (due (idle small 1 2) (.write 0x1040 4 0xFFFFFFFF#32)) 0x040 0xFFFFFFFF#32 [] ∧
      WritesNext (due (idle small 1 2) (.write 0x102C 4 1#32)) 0x02C 1#32 [] ∧
      WritesNext (due busyState (.write 0x1030 4 3#32)) 0x030 3#32 [] :=
  ⟨rfl, rfl, rfl, rfl, rfl, rfl, rfl, rfl, rfl⟩

theorem witness_HostAccessesKeepResults :
    (∃ t, step (due busyState (.write 0x101C 4 0x7FFFFFFF#32)) = .next t) ∧
      (due busyState (.write 0x101C 4 0x7FFFFFFF#32)).inputs = .write 0x101C 4 0x7FFFFFFF#32 :: [] ∧
      ¬(0x101C = busyState.cfg.coreBase + 0x01C ∧ 4 = 4 ∧ (0x7FFFFFFF#32 : Word).getLsbD 31 = true) :=
  ⟨⟨_, rfl⟩, rfl, by decide⟩

theorem witness_CmdcountCountsAccepts : ∃ t, step (due (idle small 1 2) (.write 0x1010 4 0#32)) = .next t := ⟨_, rfl⟩

theorem witness_LoadLiteralLoads :
    (idle small 7 7).phase = .idle ∧ (idle small 7 7).cfg.Valid ∧
      (-(2 ^ 384 - 1) : Int).natAbs < radix ^ (idle small 7 7).cfg.cap ∧
      State.inputs { idle small 7 7 with inputs := loadLiteral small 3 (-(2 ^ 384 - 1)) ++ [] } =
        loadLiteral (idle small 7 7).cfg 3 (-(2 ^ 384 - 1)) ++ [] := by decide +kernel

/-- A running MODEXP past its checks, with the table of its modulus. -/
def deepState : State := running 2 0x28013200#32 (((idle small 2790 3233).setBig 3 2753).setBank 0 (Bank.build 3233))

theorem deepState_banks : ∀ t : BankNo, Bank.Sound deepState.cfg deepState.tbl[t] := by
  unfold Bank.Sound
  decide +kernel

theorem deepState_running : ∀ j, deepState.phase = .run j → JobSound deepState j := by
  intro j h
  have e : j = { word := 0x28013200#32, snap := deepState.b, seg := 2 } := by
    have := h.symm.trans (show deepState.phase = .run { word := 0x28013200#32, snap := deepState.b, seg := 2 } from rfl)
    injection this
  subst e
  exact ⟨rfl, rfl, rfl, rfl, fun _ => ⟨.modexp 0 1 3 2 0 .fresh, rfl, by decide +kernel⟩⟩

theorem witness_StepKeepsSound : deepState.Sound ∧ ∃ t, step deepState = .next t :=
  ⟨{ config := by decide
     registers := by decide +kernel
     banks := deepState_banks
     vectors := by decide +kernel
     selector := by decide
     endings := by decide
     faultClear := by decide
     faultSet := by decide
     running := deepState_running
     initial := by decide +kernel }, ⟨_, rfl⟩⟩

theorem witness_ResetIsSound : small.Valid ∧ Config.standard.Valid := by decide

theorem witness_StepKeepsOperands :
    ∃ t, step busyState = .next t ∧
      busyState.phase = .run { word := 0x28013200#32, snap := busyState.b, seg := 0 } ∧
      t.phase = .run { word := 0x28013200#32, snap := busyState.b, seg := 1 } := ⟨_, rfl, rfl, by decide +kernel⟩

theorem witness_StepKeepsOneEnding :
    ¬(busyState.err = true ∧ busyState.cancelled = true) ∧ ∃ t, step busyState = .next t := ⟨by decide, ⟨_, rfl⟩⟩

theorem witness_FaultsArePrecise :
    (running 0 0x20512000#32 (idle small 0 5)).err = false ∧
      ∃ t, exec (.gcd 5 1 2) (running 0 0x20512000#32 (idle small 0 5)) = .next t ∧ t.err = true :=
  ⟨rfl, ⟨_, rfl, by decide +kernel⟩⟩

theorem witness_PlainCommandsTakeOneStep : hasSafePoints (.gcd 5 1 2) = false := by decide

theorem witness_SafePointsTakeACancel :
    hasSafePoints (.modexp 0 1 3 2 0 .fresh) = true ∧
      State.cancelPending { deepState with cancelPending := true } = true ∧ (1 ≤ 2) ∧
      AtSegment 2 { deepState with cancelPending := true } ∧ AtSegment 0 { busyState with cancelPending := true } :=
  ⟨rfl, rfl, by decide, ⟨_, rfl, rfl⟩, ⟨_, rfl, rfl⟩⟩

/-- The largest shift that fits, and the first that does not. -/
theorem witness_ShlResult :
    ((withArgs (idle small 1 0) 383#32 0#32).opBig 1).natAbs * 2 ^ (withArgs (idle small 1 0) 383#32 0#32).arg0.toNat <
        radix ^ small.cap ∧
      radix ^ small.cap ≤
        ((withArgs (idle small 1 0) 384#32 0#32).opBig 1).natAbs * 2 ^ (withArgs (idle small 1 0) 384#32 0#32).arg0.toNat := by
  decide +kernel

/-- The largest value that fits, and the first that does not. -/
theorem witness_ExactSumsAndProducts :
    (5 : Int) = (((withArgs (idle small (2 ^ 384 - 1) 0) 5#32 0#32).arg1.toNat * 2 ^ 32 +
        (withArgs (idle small (2 ^ 384 - 1) 0) 5#32 0#32).arg0.toNat : Nat) : Int) ∧
      ((idle small (2 ^ 384 - 1) 0).opBig 1 + (idle small (2 ^ 384 - 1) 0).opBig 2).natAbs < radix ^ small.cap ∧
      radix ^ small.cap ≤ ((idle small (2 ^ 384 - 1) 1).opBig 1 + (idle small (2 ^ 384 - 1) 1).opBig 2).natAbs := by
  decide +kernel

theorem witness_RndoddResult :
    (12 : Nat) = (withArgs (idle small 0 0) 12#32 0#32).arg0.toNat ∧ 1 ≤ 12 ∧ 12 ≤ small.cap ∧
      (1 : Nat) = (withArgs (idle small 0 0) 1#32 0#32).arg0.toNat ∧ (0 : Nat) = (idle small 0 0).arg0.toNat ∧
      (13 : Nat) = (withArgs (idle small 0 0) 13#32 0#32).arg0.toNat ∧ small.cap < 13 := by decide

theorem witness_DivResult :
    (idle small (-5) 0).opBig 2 = 0 ∧ (idle small (-5) 3).opBig 1 < 0 ∧ (idle small (-5) 3).opBig 2 ≠ 0 ∧
      (0 : BReg) ≠ 3 ∧ 0 ≤ (idle small 0 1).opBig 1 ∧ 0 < (idle small 0 1).opBig 2 := by decide +kernel

theorem witness_ShortDivisionResults :
    (0 : Nat) = (idle small (-1) 0).arg0.toNat ∧ (0 : Nat) = (idle small 0 0).arg1.toNat * 2 ^ 32 + (idle small 0 0).arg0.toNat ∧
      (1 : Nat) = (withArgs (idle small (-1) 0) 1#32 0#32).arg0.toNat ∧
      (withArgs (idle small (-1) 0) 1#32 0#32).opBig 1 < 0 ∧ 0 ≤ (withArgs (idle small 0 0) 1#32 0#32).opBig 1 := by
  decide +kernel

theorem witness_GcdResult :
    (idle small 0 5).opBig 1 ≤ 0 ∧ 0 < (idle small 1 1).opBig 1 ∧ 0 < (idle small 1 1).opBig 2 := by decide +kernel

theorem witness_InvResult :
    (idle small 5 1).opBig 2 ≤ 1 ∧ 1 ≤ (idle small 1 2).opBig 1 ∧ 2 ≤ (idle small 1 2).opBig 2 ∧ Int.gcd 1 2 = 1 ∧
      Int.gcd ((idle small 6 9).opBig 1) ((idle small 6 9).opBig 2) ≠ 1 := by decide +kernel

theorem witness_InvseResult :
    (999999 : Nat) = (withArgs (idle small 2 0) 999999#32 0#32).arg0.toNat ∧ 2 ≤ (idle small 2 0).opBig 1 ∧
      Int.gcd 999999 ((idle small 2 0).opBig 1) = 1 ∧ Int.gcd 2 ((idle small 2 0).opBig 1) ≠ 1 ∧
      (1000000 : Nat) = (withArgs (idle small 2 0) 1000000#32 0#32).arg0.toNat := by decide +kernel

theorem witness_SmallfactResult :
    (idle small 0 0).cfg.Valid ∧ 0 ≤ (idle small 0 0).opBig 1 ∧ (idle small (-1) 0).opBig 1 < 0 := by decide +kernel

theorem witness_IsqrtResult : 0 ≤ (idle small 0 0).opBig 1 ∧ (idle small (-1) 0).opBig 1 < 0 := by decide +kernel

/-- The largest modulus a table fits for at CAP = 12 has one digit. -/
theorem witness_TblbuildResult :
    (idle small 0 0).opBig 1 = 0 ∧ (idle small (-1) 0).opBig 1 < 0 ∧
      (idle small (2 ^ 32 - 1) 0).opBig 1 = ((2 ^ 32 - 1 : Nat) : Int) ∧ 2 * ndig (2 ^ 32 - 1) + 10 ≤ small.cap ∧
      (idle small (2 ^ 32) 0).opBig 1 = ((2 ^ 32 : Nat) : Int) ∧ small.cap < 2 * ndig (2 ^ 32) + 10 := by decide +kernel

theorem witness_ReduceResult :
    (idle small (-1) 0).opBig 1 < 0 ∧ 0 ≤ (idle small 1 0).opBig 1 ∧ (idle small 1 0).tbl[(0 : BankNo)].valid = false ∧
      ((idle wide (2 ^ 384) 0).setBank 0 (Bank.build 3233)).tbl[(0 : BankNo)].len < ndig (2 ^ 384) ∧
      ((idle small (2 ^ 384 - 1) 0).setBank 0 (Bank.build 3233)).tbl[(0 : BankNo)] = Bank.build 3233 ∧
      (idle small (2 ^ 384 - 1) 0).cfg.Valid ∧ (idle small (2 ^ 384 - 1) 0).opBig 1 = ((2 ^ 384 - 1 : Nat) : Int) ∧
      2 * ndig 3233 + 10 ≤ small.cap ∧ ndig (2 ^ 384 - 1) ≤ 2 * ndig 3233 + 10 := by decide +kernel

/-- The key's layout, as one decidable condition. -/
theorem keyAt_of {s : State} {a : BReg} {g : KeyGroup} {c p q dP dQ qInv : Int}
    (h : s.opBig a = c ∧ (∀ r : BReg, r.val = g.val → s.opBig r = p) ∧ (∀ r : BReg, r.val = g.val + 1 → s.opBig r = q) ∧
      (∀ r : BReg, r.val = g.val + 2 → s.opBig r = dP) ∧ (∀ r : BReg, r.val = g.val + 3 → s.opBig r = dQ) ∧
      ∀ r : BReg, r.val = g.val + 4 → s.opBig r = qInv) : KeyAt s a g c p q dP dQ qInv :=
  ⟨h.1, h.2.1, h.2.2.1, h.2.2.2.1, h.2.2.2.2.1, h.2.2.2.2.2⟩

/-- The clauses of the check phase: MODEXP, the Fermat commands, CRT. -/
theorem witness_CheckPhaseFaultsInOrder :
    AtSegment 0 busyState ∧ busyState.opBig 5 = 0 ∧ 0 < busyState.opBig 2 ∧ 0 ≤ busyState.opBig 1 ∧
      busyState.tbl[(0 : BankNo)].valid = false ∧
      small.cap < 2 * ndig ((running 0 0#32 (idle small 5 (2 ^ 64))).opBig 2).toNat + 10 ∧
      (running 0 0#32 (idle small 1 (-1))).opBig 1 < 2 ∧ (running 0 0#32 (idle small 1 (-1))).opBig 2 < 0 ∧
      small.primeCount < (withArgs busyState 25#32 0#32).arg0.toNat ∧ 2 ≤ busyState.opBig 1 ∧
      ((keyed 5).setBig 11 7).tbl[(1 : BankNo)].modulus = 53 :=
  ⟨⟨_, rfl, rfl⟩, by decide +kernel⟩

/-- CRT on the key group 10, accepted. -/
def crtOn (s : State) : State := running 0 0x4091A040#32 s

/-- CRT's clauses, one key each: Q = 0; qInv negative; Q not bank 1's modulus; P too long for a table. -/
theorem witness_CheckPhaseFaultsInOrder_crt :
    (KeyAt (crtOn ((keyed 5).setBig 11 0)) 1 10 5 61 0 53 49 38 ∧ AtSegment 0 (crtOn ((keyed 5).setBig 11 0))) ∧
      (KeyAt (crtOn ((keyed 5).setBig 14 (-1))) 1 10 5 61 53 53 49 (-1) ∧
        AtSegment 0 (crtOn ((keyed 5).setBig 14 (-1)))) ∧
      (KeyAt (crtOn ((keyed 5).setBig 11 7)) 1 10 5 61 7 53 49 38 ∧ AtSegment 0 (crtOn ((keyed 5).setBig 11 7))) ∧
      KeyAt (crtOn ((keyed 5).setBig 10 (2 ^ 64))) 1 10 5 (2 ^ 64) 53 53 49 38 ∧
        AtSegment 0 (crtOn ((keyed 5).setBig 10 (2 ^ 64))) :=
  ⟨⟨keyAt_of (by decide +kernel), _, rfl, rfl⟩, ⟨keyAt_of (by decide +kernel), _, rfl, rfl⟩,
    ⟨keyAt_of (by decide +kernel), _, rfl, rfl⟩, keyAt_of (by decide +kernel), _, rfl, rfl⟩

theorem witness_ModexpCompletes :
    AtSegment 0 busyState ∧ busyState.cancelPending = false ∧ busyState.cfg.Valid ∧ busyState.opBig 1 = ((2790 : Nat) : Int) ∧
      busyState.opBig 3 = ((2753 : Nat) : Int) ∧ busyState.opBig 2 = ((3233 : Nat) : Int) ∧
      2 * ndig 3233 + 10 ≤ busyState.cfg.cap ∧ (busyState.setBank 0 (Bank.build 3233)).tbl[(0 : BankNo)] = Bank.build 3233 :=
  ⟨⟨_, rfl, rfl⟩, by decide +kernel⟩

/-- FERMAT on 9, at the safe point after round 0 of two. -/
def roundState : State := running 3 0x29010000#32 (withArgs ((idle small 9 0).setBank 0 (Bank.build 9)) 2#32 0#32)

/-- 89^8 mod 9 = 1 goes on, and on 341 the base 89 is a witness. -/
theorem witness_FermatRound :
    AtSegment (3 + 2 * 0) roundState ∧ roundState.cancelPending = false ∧ roundState.cfg.Valid ∧
      roundState.opBig 1 = ((9 : Nat) : Int) ∧ 2 * ndig 9 + 10 ≤ roundState.cfg.cap ∧
      roundState.tbl[(0 : BankNo)] = Bank.build 9 ∧ 89 = roundState.cfg.primeAt (roundState.cfg.primeCount - 1 - 0) ∧
      89 ^ (9 - 1) % 9 = 1 ∧ 0 + 1 < roundState.arg0.toNat ∧
      83 = roundState.cfg.primeAt (roundState.cfg.primeCount - 1 - 1) ∧ 83 ^ (9 - 1) % 9 ≠ 1 :=
  ⟨⟨_, rfl, rfl⟩, by decide +kernel⟩

/-- FERMAT on `x` with `n` rounds, accepted. -/
def fermatStart (x : Int) (n : Word) : State := running 0 0x29010000#32 (withArgs (idle small x 0) n 0#32)

theorem witness_FermatCompletes :
    AtSegment 0 (fermatStart 9 24#32) ∧ (fermatStart 9 24#32).cancelPending = false ∧ (fermatStart 9 24#32).cfg.Valid ∧
      24 = (fermatStart 9 24#32).arg0.toNat ∧ 24 ≤ (fermatStart 9 24#32).cfg.primeCount ∧
      (fermatStart 9 24#32).opBig 1 = ((9 : Nat) : Int) ∧ 2 * ndig 9 + 10 ≤ (fermatStart 9 24#32).cfg.cap ∧
      83 = small.primeAt (small.primeCount - 1 - 1) ∧ 83 ^ (9 - 1) % 9 ≠ 1 ∧
      (∀ i, i < 1 → small.primeAt (small.primeCount - 1 - i) ^ (9 - 1) % 9 = 1) :=
  ⟨⟨_, rfl, rfl⟩, by decide +kernel⟩

/-- 101 is no base of the small ROM, and 89 is its last prime. -/
theorem witness_FermatVerdictOnPrimes :
    AtSegment 0 (fermatStart 101 24#32) ∧ Nat.Prime 101 ∧ Nat.Prime 89 ∧ (fermatStart 101 24#32).cancelPending = false ∧
      (fermatStart 101 24#32).cfg.Valid ∧ 24 = (fermatStart 101 24#32).arg0.toNat ∧
      24 ≤ (fermatStart 101 24#32).cfg.primeCount ∧ (fermatStart 101 24#32).opBig 1 = ((101 : Nat) : Int) ∧
      2 * ndig 101 + 10 ≤ (fermatStart 101 24#32).cfg.cap :=
  ⟨⟨_, rfl, rfl⟩, by norm_num, by norm_num, by decide +kernel⟩

theorem witness_Fermat1Completes :
    AtSegment 0 (running 0 0x2A010000#32 (withArgs (idle small 341 0) 2#32 0#32)) ∧
      (running 0 0x2A010000#32 (withArgs (idle small 341 0) 2#32 0#32)).opBig 1 = ((341 : Nat) : Int) ∧
      (running 0 0x2A010000#32 (withArgs (idle small 341 0) 2#32 0#32)).cancelPending = false ∧ small.Valid ∧
      2 * ndig 341 + 10 ≤ small.cap ∧ 2 ^ (341 - 1) % 341 = 1 ∧ 3 ^ (341 - 1) % 341 ≠ 1 :=
  ⟨⟨_, rfl, rfl⟩, by decide +kernel⟩

theorem witness_VectorResults :
    vectors.cfg.Valid ∧ slotsBelow vectors.rv[(0 : VReg)] vectors.cfg.slotPrimes = true ∧
      slotsBelow vectors.rv[(1 : VReg)] vectors.cfg.slotPrimes = true ∧ 0 ≤ vectors.opBig 1 ∧
      (idle small (-1) 0).opBig 1 < 0 := by decide +kernel

theorem witness_VectorHomomorphism : small.Valid ∧ 65 ≤ 3233 := by decide

/-- CRT on the key of section 2.7, accepted. -/
def crtStart : State := crtOn (keyed 2790)

theorem witness_CrtCompletes :
    AtSegment 0 crtStart ∧
      KeyAt crtStart 1 10 (2790 : Nat) (61 : Nat) (53 : Nat) (53 : Nat) (49 : Nat) (38 : Nat) ∧
      crtStart.cancelPending = false ∧ crtStart.cfg.Valid ∧
      2 * ndig 61 + 10 ≤ crtStart.cfg.cap ∧ 2 * ndig 53 + 10 ≤ crtStart.cfg.cap ∧
      crtStart.tbl[(0 : BankNo)] = Bank.build 61 ∧ crtStart.tbl[(1 : BankNo)] = Bank.build 53 :=
  ⟨⟨_, rfl, rfl⟩, keyAt_of (by decide +kernel), by decide +kernel⟩

/-- S1: P = 61, Q = 53, e = 17, d = 2753. -/
theorem witness_CrtDecrypts :
    AtSegment 0 crtStart ∧
      KeyAt crtStart 1 10 (2790 : Nat) (61 : Nat) (53 : Nat) ((2753 % (61 - 1) : Nat) : Int)
        ((2753 % (53 - 1) : Nat) : Int) (38 : Nat) ∧ Nat.Prime 61 ∧ Nat.Prime 53 ∧ 17 * 2753 % ((61 - 1) * (53 - 1)) = 1 ∧ 38 * 53 % 61 = 1 ∧
      2790 < 61 * 53 :=
  ⟨⟨_, rfl, rfl⟩, keyAt_of (by decide +kernel), by norm_num, by norm_num, by decide +kernel⟩

theorem witness_RomHoldsThePrimes : ∃ t, step busyState = .next t ∧ small.primeAt 23 = 89 := ⟨_, rfl, by decide +kernel⟩

/-- The smallest divisor of long division, with a dividend above it. -/
theorem witness_DividerComputesDivision : 0 < 2 ^ 32 ∧ 2 ^ 32 < 2 ^ 32 + 1 ∧ longDivide (2 ^ 32 + 1) (2 ^ 32) = (1, 1) := by
  decide +kernel

theorem witness_OtherDatapathsAreExact :
    (0 : Int) < 61 ∧ garnerStep 3 38 61 4 12 = 1 ∧ garnerStep 0 38 61 4 12 = 1 := by decide +kernel

end Sys2Proof.Tests
end

section
/-! PROOFS. The prime ROM (R8, R40): trial division decides primality, the search finds the next prime, and so entry `i`
is the prime counted `i` from 0. -/

namespace Sys2Proof.Machine

/-- Trial division from `d` finds a divisor exactly when one lies between `d` and the square root, given enough fuel. -/
theorem hasDivisorFrom_eq_true_iff {n : Nat} (fuel d : Nat) (hf : n < fuel + d) :
    hasDivisorFrom n fuel d = true ↔ ∃ e, d ≤ e ∧ e * e ≤ n ∧ e ∣ n := by
  induction fuel generalizing d with
  | zero =>
    have hlarge : ¬∃ e, d ≤ e ∧ e * e ≤ n ∧ e ∣ n := by
      rintro ⟨e, hde, hen, -⟩
      have := Nat.le_mul_self e
      omega
    simpa [hasDivisorFrom] using hlarge
  | succ fuel ih =>
    unfold hasDivisorFrom
    split
    · next hlt =>
      have hlarge : ¬∃ e, d ≤ e ∧ e * e ≤ n ∧ e ∣ n := by
        rintro ⟨e, hde, hen, -⟩
        have := Nat.mul_le_mul hde hde
        omega
      simpa using hlarge
    · next hge =>
      split
      · next hd => simpa using ⟨d, le_rfl, not_lt.mp hge, Nat.dvd_of_mod_eq_zero hd⟩
      · next hd =>
        rw [ih (d + 1) (by omega)]
        constructor
        · rintro ⟨e, hde, he⟩
          exact ⟨e, by omega, he⟩
        · rintro ⟨e, hde, hen, hdvd⟩
          have hne : d ≠ e := fun h => hd (Nat.mod_eq_zero_of_dvd (h ▸ hdvd))
          exact ⟨e, by omega, hen, hdvd⟩

theorem isPrimeNumber_iff {n : Nat} (hn : 2 ≤ n) : isPrimeNumber n = true ↔ n.Prime := by
  rw [Nat.prime_def_le_sqrt, isPrimeNumber, Bool.not_eq_true', ← Bool.not_eq_true,
    hasDivisorFrom_eq_true_iff n 2 (by omega)]
  simp only [Nat.le_sqrt]
  constructor
  · intro h
    exact ⟨hn, fun m hm hmn hdvd => h ⟨m, hm, hmn, hdvd⟩⟩
  · rintro ⟨-, h⟩ ⟨m, hm, hmn, hdvd⟩
    exact h m hm hmn hdvd

/-- With a prime in reach, the search answers the least prime from `n` up. -/
theorem primeAtLeast_spec (fuel : Nat) {n : Nat} (hn : 2 ≤ n) (h : ∃ p, p.Prime ∧ n ≤ p ∧ p ≤ n + fuel) :
    (primeAtLeast fuel n).Prime ∧ n ≤ primeAtLeast fuel n ∧ ∀ q, q.Prime → n ≤ q → primeAtLeast fuel n ≤ q := by
  induction fuel generalizing n with
  | zero =>
    obtain ⟨p, hp, hnp, hpn⟩ := h
    obtain rfl : p = n := by omega
    exact ⟨hp, le_rfl, fun _ _ h => h⟩
  | succ fuel ih =>
    unfold primeAtLeast
    split
    · next hprime => exact ⟨(isPrimeNumber_iff hn).mp hprime, le_rfl, fun _ _ h => h⟩
    · next hcomposite =>
      rw [isPrimeNumber_iff hn] at hcomposite
      have hne : ∀ q : Nat, q.Prime → n ≤ q → n + 1 ≤ q := fun q hq hnq =>
        lt_of_le_of_ne hnq fun e => hcomposite (e ▸ hq)
      obtain ⟨p, hp, hnp, hpn⟩ := h
      obtain ⟨hq, hle, hleast⟩ := ih (n := n + 1) (by omega) ⟨p, hp, hne p hp hnp, by omega⟩
      exact ⟨hq, by omega, fun q hq hnq => hleast q hq (hne q hq hnq)⟩

/-- Bertrand's postulate: `n` places are enough to find the next prime. -/
theorem primeAtLeast_self_spec {n : Nat} (hn : 2 ≤ n) :
    (primeAtLeast n n).Prime ∧ n ≤ primeAtLeast n n ∧ ∀ q, q.Prime → n ≤ q → primeAtLeast n n ≤ q := by
  obtain ⟨p, hp, hlt, hle⟩ := Nat.exists_prime_lt_and_le_two_mul n (by omega)
  exact primeAtLeast_spec n hn ⟨p, hp, hlt.le, by omega⟩

/-- The search passes over no prime. -/
theorem count_primeAtLeast {n : Nat} (hn : 2 ≤ n) :
    Nat.count Nat.Prime (primeAtLeast n n) = Nat.count Nat.Prime n := by
  obtain ⟨-, hle, hleast⟩ := primeAtLeast_self_spec hn
  refine le_antisymm ?_ (Nat.count_monotone _ hle)
  by_contra hlt
  obtain ⟨q, ⟨hq, hqp⟩, hprime⟩ := Nat.exists_of_count_lt_count (not_le.mp hlt)
  exact absurd (hleast q hprime hq) (not_le.mpr hqp)

@[simp] theorem length_primesFrom (count n : Nat) : (primesFrom count n).length = count := by
  induction count generalizing n with
  | zero => rfl
  | succ count ih => simp [primesFrom, ih]

/-- Entry `i` of the primes from `n` up is the prime `i` places after the primes below `n`. -/
theorem getD_primesFrom (count : Nat) {n : Nat} (hn : 2 ≤ n) {i : Nat} (hi : i < count) :
    (primesFrom count n).getD i 0 = Nat.nth Nat.Prime (Nat.count Nat.Prime n + i) := by
  induction count generalizing n i with
  | zero => omega
  | succ count ih =>
    obtain ⟨hprime, hle, -⟩ := primeAtLeast_self_spec hn
    have hcount := count_primeAtLeast hn
    cases i with
    | zero => simpa [primesFrom, hcount] using (Nat.nth_count hprime).symm
    | succ i =>
      have hrest := ih (n := primeAtLeast n n + 1) (by omega) (show i < count by omega)
      rw [Nat.count_succ, if_pos hprime, hcount] at hrest
      simpa [primesFrom, Nat.add_comm 1 i, Nat.add_assoc] using hrest

theorem rom_eq_primesFrom (c : Config) : c.rom = primesFrom c.primeCount 2 := by
  unfold Config.rom
  split
  · next h => rw [h, standardRom]
  · rfl

theorem length_rom (c : Config) : c.rom.length = c.primeCount := by
  rw [rom_eq_primesFrom, length_primesFrom]

theorem primeAt_eq_nth (c : Config) {i : Nat} (hi : i < c.primeCount) : c.primeAt i = Nat.nth Nat.Prime i := by
  have hbelow : Nat.count Nat.Prime 2 = 0 := by decide
  rw [Config.primeAt, rom_eq_primesFrom, getD_primesFrom _ le_rfl hi, hbelow, Nat.zero_add]

/-- Every entry of the ROM is a prime. -/
theorem prime_of_mem_rom {c : Config} {p : Nat} (hp : p ∈ c.rom) : p.Prime := by
  obtain ⟨i, hi, rfl⟩ := List.getElem_of_mem hp
  have hnth := primeAt_eq_nth c (i := i) (by rwa [length_rom] at hi)
  rw [Config.primeAt, List.getD_eq_getElem _ _ hi] at hnth
  exact hnth ▸ Nat.prime_nth_prime i

theorem prime_of_mem_slotPrimes {c : Config} {p : Nat} (hp : p ∈ c.slotPrimes) : p.Prime :=
  prime_of_mem_rom (List.mem_of_mem_take hp)

theorem length_slotPrimes {c : Config} (hc : c.Valid) : c.slotPrimes.length = c.slots := by
  obtain ⟨-, -, hslots, -⟩ := hc
  simp [Config.slotPrimes, length_rom, Config.slots, hslots]

end Sys2Proof.Machine
end

section
/-! PROOFS. The rules of a step: what each event can do (R90), what the core's turn can do (R323, R352), and what a host
access does, by its register (R47, R70, R73, R88). -/

namespace Sys2Proof.Machine

/-! ### The registers of the block -/

/-- The offset of a register (R47). -/
def HostReg.offset : HostReg → Nat
  | .id => 0x000
  | .param0 => 0x004
  | .param1 => 0x008
  | .cmdcount => 0x00C
  | .cmd => 0x010
  | .arg0 => 0x014
  | .arg1 => 0x018
  | .ctrl => 0x01C
  | .status => 0x020
  | .fault => 0x024
  | .res0 => 0x028
  | .res1 => 0x02C
  | .inten => 0x030
  | .wsel => 0x040
  | .widx => 0x044
  | .wdata => 0x048
  | .wmeta => 0x04C

/-- The offsets R47 lists. -/
def hostOffsets : List Nat :=
  [0x000, 0x004, 0x008, 0x00C, 0x010, 0x014, 0x018, 0x01C, 0x020, 0x024, 0x028, 0x02C, 0x030, 0x040, 0x044, 0x048, 0x04C]

theorem regAt_offset (r : HostReg) : regAt r.offset = some r := by cases r <;> rfl

theorem eq_offset_of_regAt {off : Nat} {r : HostReg} (h : regAt off = some r) : off = r.offset := by
  unfold regAt at h
  split at h <;> cases h <;> rfl

theorem offset_mem_hostOffsets (r : HostReg) : r.offset ∈ hostOffsets := by cases r <;> decide

theorem regAt_eq_none {off : Nat} (h : off ∉ hostOffsets) : regAt off = none := by
  cases hr : regAt off with
  | none => rfl
  | some r => exact absurd (eq_offset_of_regAt hr ▸ offset_mem_hostOffsets r) h

theorem HostReg.offset_lt (r : HostReg) : r.offset < 4096 := by cases r <;> decide

theorem HostReg.aligned_offset (r : HostReg) : aligned r.offset 4 = true := by cases r <;> rfl

theorem selected_of_offset (s : State) {off : Nat} (h : off < 4096) : s.selected (s.cfg.coreBase + off) = true := by
  simp [State.selected, h]

/-! ### Host accesses -/

/-- A read at a register's offset acts or is refused (R88). -/
theorem hostRead_offset (s : State) (r : HostReg) :
    s.hostRead (s.cfg.coreBase + r.offset) 4 =
      if s.busy && !r.readsWhileBusy then s.refuseRead else s.readReg r := by
  simp [State.hostRead, selected_of_offset s r.offset_lt, r.aligned_offset, regAt_offset]

/-- A write at a register's offset acts or is refused (R88). -/
theorem hostWrite_offset (s : State) (r : HostReg) (w : Word) :
    s.hostWrite (s.cfg.coreBase + r.offset) 4 w =
      if s.busy && !r.writesWhileBusy then s.flagHostErr else s.writeReg w r := by
  simp [State.hostWrite, selected_of_offset s r.offset_lt, r.aligned_offset, regAt_offset]

/-- A read in the block that R73 or R62 calls bad is refused. -/
theorem hostRead_bad (s : State) {off size : Nat} (hoff : off < 4096)
    (hbad : size ≠ 4 ∨ off % 4 ≠ 0 ∨ off ∉ hostOffsets) :
    s.hostRead (s.cfg.coreBase + off) size = s.refuseRead := by
  simp only [State.hostRead, selected_of_offset s hoff, if_true, Nat.add_sub_cancel_left]
  split
  · next h =>
    obtain ⟨hsize, halign⟩ : size = 4 ∧ off % 4 = 0 := by simpa [aligned] using h
    rw [regAt_eq_none (by tauto)]
  · rfl

/-- A write in the block that R73 or R62 calls bad is ignored. -/
theorem hostWrite_bad (s : State) {off size : Nat} (w : Word) (hoff : off < 4096)
    (hbad : size ≠ 4 ∨ off % 4 ≠ 0 ∨ off ∉ hostOffsets) :
    s.hostWrite (s.cfg.coreBase + off) size w = s.flagHostErr := by
  simp only [State.hostWrite, selected_of_offset s hoff, if_true, Nat.add_sub_cancel_left]
  split
  · next h =>
    obtain ⟨hsize, halign⟩ : size = 4 ∧ off % 4 = 0 := by simpa [aligned] using h
    rw [regAt_eq_none (by tauto)]
  · rfl

/-- The states `s` and `t` agree but for HOSTERR, WIDX and the read-data lines. -/
def PortOnly (s t : State) : Prop :=
  ∃ (err : Bool) (index answer : Word), t = { s with hostErr := err, widx := index, readData := answer }

theorem portOnly_refl (s : State) : PortOnly s s := ⟨_, _, _, rfl⟩

theorem portOnly_answer (s : State) (w : Word) : PortOnly s (s.answer w) := ⟨_, _, _, rfl⟩

theorem portOnly_refuseRead (s : State) : PortOnly s s.refuseRead := ⟨_, _, _, rfl⟩

theorem portOnly_flagHostErr (s : State) : PortOnly s s.flagHostErr := ⟨_, _, _, rfl⟩

theorem portOnly_answerWindow (s : State) (x : Option Nat) : PortOnly s (s.answerWindow x) := by
  cases x with
  | none => exact portOnly_refuseRead s
  | some v => exact portOnly_answer s _

theorem PortOnly.windowAdvance {s t : State} (h : PortOnly s t) : PortOnly s t.windowAdvance := by
  obtain ⟨_, _, _, rfl⟩ := h
  unfold State.windowAdvance
  split <;> exact ⟨_, _, _, rfl⟩

theorem portOnly_readReg (s : State) (r : HostReg) : PortOnly s (s.readReg r) := by
  cases r with
  | wdata => exact (portOnly_answerWindow s _).windowAdvance
  | wmeta => exact portOnly_answerWindow s _
  | _ => exact portOnly_answer s _

/-- No read changes more than HOSTERR, WIDX and the read-data lines. -/
theorem portOnly_hostRead (s : State) (addr size : Nat) : PortOnly s (s.hostRead addr size) := by
  unfold State.hostRead
  split
  · split
    · split
      · split
        · exact portOnly_refuseRead s
        · exact portOnly_readReg s _
      · exact portOnly_refuseRead s
    · exact portOnly_refuseRead s
  · exact portOnly_refl s

/-- A write leaves all but HOSTERR as it is, or it is the write of a register, whole and aligned, that acts. -/
theorem hostWrite_cases (s : State) (addr size : Nat) (w : Word) :
    PortOnly s (s.hostWrite addr size w) ∨
      ∃ r : HostReg, addr = s.cfg.coreBase + r.offset ∧ size = 4 ∧ (s.busy = false ∨ r.writesWhileBusy = true) ∧
        s.hostWrite addr size w = s.writeReg w r := by
  unfold State.hostWrite
  split
  · next hsel =>
    split
    · next halign =>
      obtain ⟨hbase, -⟩ : s.cfg.coreBase ≤ addr ∧ addr < s.cfg.coreBase + 4096 := by
        simpa [State.selected] using hsel
      obtain ⟨hsize, -⟩ : size = 4 ∧ (addr - s.cfg.coreBase) % 4 = 0 := by simpa [aligned] using halign
      split
      · next r hr =>
        have haddr : addr = s.cfg.coreBase + r.offset := by
          rw [← eq_offset_of_regAt hr, Nat.add_sub_cancel' hbase]
        split
        · exact .inl (portOnly_flagHostErr s)
        · next hacts =>
          refine .inr ⟨r, haddr, hsize, ?_, rfl⟩
          cases hb : s.busy
          · exact .inl rfl
          · exact .inr (by simpa [hb] using hacts)
      · exact .inl (portOnly_flagHostErr s)
    · exact .inl (portOnly_flagHostErr s)
  · exact .inl (portOnly_refl s)

/-! ### Steps -/

section
variable {s : State} {rest : List Input}

theorem step_of_read {addr size : Nat} (h : s.inputs = .read addr size :: rest) :
    step s = .next (State.hostRead { s with inputs := rest } addr size) := by
  simp only [step, h]

theorem step_of_write {addr size : Nat} {w : Word} (h : s.inputs = .write addr size w :: rest) :
    step s = .next (State.hostWrite { s with inputs := rest } addr size w) := by
  simp only [step, h]

theorem step_of_rst (h : s.inputs = .rst :: rest) :
    step s = .next (State.applyReset { s with inputs := rest }) := by
  simp only [step, h]

/-- The step on a read of register `r`, where it acts. -/
theorem step_read (r : HostReg) (h : ReadsNext s r.offset rest) (hacts : s.busy = false ∨ r.readsWhileBusy = true) :
    step s = .next (State.readReg { s with inputs := rest } r) := by
  have hread := hostRead_offset { s with inputs := rest } r
  rw [if_neg (by rcases hacts with hb | hr <;> simp_all [State.busy])] at hread
  rw [step_of_read h, hread]

/-- The step on a write of register `r`, where it acts. -/
theorem step_write (r : HostReg) {w : Word} (h : WritesNext s r.offset w rest)
    (hacts : s.busy = false ∨ r.writesWhileBusy = true) :
    step s = .next (State.writeReg { s with inputs := rest } w r) := by
  have hwrite := hostWrite_offset { s with inputs := rest } r w
  rw [if_neg (by rcases hacts with hb | hr <;> simp_all [State.busy])] at hwrite
  rw [step_of_write h, hwrite]

/-- A write of a register that takes none sets HOSTERR, whether the core is busy or not. -/
theorem step_write_readOnly (r : HostReg) {w : Word} (h : WritesNext s r.offset w rest)
    (hro : ∀ u : State, u.writeReg w r = u.flagHostErr) : step s = .next (writeRefused s rest) := by
  rw [step_of_write h, hostWrite_offset { s with inputs := rest } r w, hro, ite_self]
  rfl

end

/-- The events: the core's turn, a read, a write, and RST (R90). -/
theorem step_cases {s t : State} (h : step s = .next t) :
    (∃ rest, (s.inputs = [] ∨ s.inputs = .core :: rest) ∧ State.coreStep { s with inputs := rest } = .next t) ∨
      (∃ addr size rest, s.inputs = .read addr size :: rest ∧
        t = State.hostRead { s with inputs := rest } addr size) ∨
      (∃ addr size w rest, s.inputs = .write addr size w :: rest ∧
        t = State.hostWrite { s with inputs := rest } addr size w) ∨
      ∃ rest, s.inputs = .rst :: rest ∧ t = State.applyReset { s with inputs := rest } := by
  unfold step at h
  split at h
  · next hin => exact .inl ⟨[], .inl hin, by rw [← hin]; exact h⟩
  · next rest hin => exact .inl ⟨rest, .inr hin, h⟩
  · next addr size rest hin => exact .inr (.inl ⟨addr, size, rest, hin, (Host.Outcome.next.inj h).symm⟩)
  · next addr size w rest hin => exact .inr (.inr (.inl ⟨addr, size, w, rest, hin, (Host.Outcome.next.inj h).symm⟩))
  · next rest hin => exact .inr (.inr (.inr ⟨rest, hin, (Host.Outcome.next.inj h).symm⟩))

/-- The core's turn: the end of initialisation, nothing, a segment of the running command, or the end of an illegal one. -/
theorem coreStep_cases {s t : State} (h : s.coreStep = .next t) :
    (s.phase = .init ∧ t = s.endInit) ∨ (s.phase = .idle ∧ t = s) ∨
      ∃ j, s.phase = .run j ∧
        ((∃ i, decode j.word = .ok i ∧ exec i s = .next t) ∨ t = s.illegalEnd j.word) := by
  unfold State.coreStep at h
  split at h
  · next hp => exact .inl ⟨hp, (Host.Outcome.next.inj h).symm⟩
  · next hp => exact .inr (.inl ⟨hp, (Host.Outcome.next.inj h).symm⟩)
  · next j hp =>
    split at h
    · next i hd => exact .inr (.inr ⟨j, hp, .inl ⟨i, hd, h⟩⟩)
    · exact .inr (.inr ⟨j, hp, .inr (Host.Outcome.next.inj h).symm⟩)

theorem phase_eq_idle_of_not_busy {s : State} (h : s.busy = false) : s.phase = .idle := by
  cases hp : s.phase <;> simp_all [State.busy]

theorem not_busy_of_idle {s : State} (h : s.phase = .idle) : s.busy = false := by simp [State.busy, h]

end Sys2Proof.Machine
end

section
/-! PROOFS. The bounds of the commands' results that keep a big register below `B^CAP` (R13, R31) and a slot below its
prime (R42). -/

namespace Sys2Proof.Machine

/-! ### Shifts, drawn words, digits -/

/-- The bit-length test of SHL bounds the shifted magnitude (R138). -/
theorem shifted_lt_of_bitlen {m c cap : Nat} (h : bitlen m + c ≤ 32 * cap) : m * 2 ^ c < radix ^ cap := by
  calc m * 2 ^ c < 2 ^ bitlen m * 2 ^ c := Nat.mul_lt_mul_of_pos_right (lt_two_pow_bitlen m) (by positivity)
    _ = 2 ^ (bitlen m + c) := (Nat.pow_add 2 _ _).symm
    _ ≤ 2 ^ (32 * cap) := Nat.pow_le_pow_right (by decide) h
    _ = radix ^ cap := (radix_pow cap).symm

theorem ofWords_lt (ws : List Word) : ofWords ws < radix ^ ws.length := by
  induction ws with
  | nil => simp [ofWords]
  | cons w ws ih =>
    have hw : w.toNat < radix := w.isLt
    rw [ofWords, List.length_cons, Nat.pow_succ']
    calc w.toNat + radix * ofWords ws < radix * (ofWords ws + 1) := by rw [Nat.mul_succ]; omega
      _ ≤ radix * radix ^ ws.length := Nat.mul_le_mul_left _ ih

theorem length_forceOddFull (ws : List Word) : (forceOddFull ws).length = ws.length := by simp [forceOddFull]

theorem length_drawWords (s : State) (n : Nat) : (s.drawWords n).length = n := by simp [State.drawWords]

/-- Replacing a digit inside `n` digits gives a number of at most `n` digits (R80). -/
theorem withDigit_lt {x i w n : Nat} (hx : x < radix ^ n) (hi : i < n) (hw : w < radix) :
    withDigit x i w < radix ^ n := by
  have hn : radix ^ n = radix ^ i * radix * radix ^ (n - (i + 1)) := by
    rw [← Nat.pow_succ, ← Nat.pow_add]
    congr 1
    omega
  have hsplit : radix ^ i * radix * (x / (radix ^ i * radix)) + (x % radix ^ i + radix ^ i * digit x i) = x := by
    rw [digit, ← Nat.mod_mul, Nat.div_add_mod]
  have hhigh : x / (radix ^ i * radix) + 1 ≤ radix ^ (n - (i + 1)) := Nat.div_lt_of_lt_mul (hn ▸ hx)
  have hlow : x % radix ^ i < radix ^ i := Nat.mod_lt _ (Nat.pow_pos radix_pos)
  have hkept : withDigit x i w = radix ^ i * radix * (x / (radix ^ i * radix)) + x % radix ^ i + radix ^ i * w := by
    rw [withDigit, Nat.mul_comm (digit x i), Nat.mul_comm w,
      Nat.sub_eq_of_eq_add (hsplit.symm.trans (Nat.add_assoc _ _ _).symm)]
  calc withDigit x i w
      < radix ^ i * radix * (x / (radix ^ i * radix)) + radix ^ i * (w + 1) := by rw [hkept, Nat.mul_succ]; omega
    _ ≤ radix ^ i * radix * (x / (radix ^ i * radix)) + radix ^ i * radix :=
      Nat.add_le_add_left (Nat.mul_le_mul_left _ hw) _
    _ = radix ^ i * radix * (x / (radix ^ i * radix) + 1) := (Nat.mul_succ _ _).symm
    _ ≤ radix ^ n := hn ▸ Nat.mul_le_mul_left _ hhigh

/-! ### Number theory -/

/-- Numbers of opposite sign, one subtracted from the other `q` times: the magnitudes add up. -/
theorem natAbs_sub_mul_of_opposite {x y : Int} (h : x * y ≤ 0) (q : Nat) :
    (x - q * y).natAbs = x.natAbs + q * y.natAbs := by
  have hq : (0 : Int) ≤ q := Int.natCast_nonneg q
  have habs : ((q : Int) * y).natAbs = q * y.natAbs := Int.natAbs_mul _ _
  rcases mul_nonpos_iff.mp h with ⟨hx, hy⟩ | ⟨hx, hy⟩
  · have := mul_nonpos_of_nonneg_of_nonpos hq hy
    omega
  · have := mul_nonneg hq hy
    omega

/-- The loop of R201 keeps `|t1|·r0 + |t0|·r1`, since `t0` and `t1` never have the same sign; so its coefficient is
bounded by that number. -/
theorem natAbs_le_of_euclidInv {m : Nat} (fuel : Nat) {r0 r1 : Nat} {t0 t1 t : Int} (hr0 : 0 < r0) (hsign : t0 * t1 ≤ 0)
    (hm : t1.natAbs * r0 + t0.natAbs * r1 = m) (h : euclidInv fuel r0 r1 t0 t1 = some t) : t.natAbs ≤ m := by
  induction fuel generalizing r0 r1 t0 t1 with
  | zero => simp [euclidInv] at h
  | succ fuel ih =>
    unfold euclidInv at h
    split at h
    · cases h
    · next hr1 =>
      split at h
      · cases h
        rw [← hm]
        exact (Nat.le_mul_of_pos_right _ hr0).trans (Nat.le_add_right _ _)
      · have hsign' : t1 * (t0 - ((r0 / r1 : Nat) : Int) * t1) ≤ 0 := by
          have hq : 0 ≤ ((r0 / r1 : Nat) : Int) * (t1 * t1) := mul_nonneg (Int.natCast_nonneg _) (mul_self_nonneg t1)
          linarith
        refine ih (Nat.pos_of_ne_zero hr1) hsign' ?_ h
        calc (t0 - ((r0 / r1 : Nat) : Int) * t1).natAbs * r1 + t1.natAbs * (r0 % r1)
            = t1.natAbs * (r1 * (r0 / r1) + r0 % r1) + t0.natAbs * r1 := by
              rw [natAbs_sub_mul_of_opposite hsign]
              ring
          _ = m := by rw [Nat.div_add_mod, hm]

/-- The coefficient INV's loop ends with is at most the modulus in magnitude (R201). -/
theorem natAbs_inverseCoefficient_le {x m : Nat} {t : Int} (hm : 0 < m) (h : inverseCoefficient x m = some t) :
    t.natAbs ≤ m :=
  natAbs_le_of_euclidInv (x + 1) hm (by decide) (by simp) h

theorem natAbs_normalised_le {t m : Int} (hm : 0 ≤ m) (h : t.natAbs ≤ m.natAbs) : (normalised t m).natAbs ≤ m.natAbs := by
  unfold normalised
  split <;> omega

/-- The scan of R202 answers one of its candidates. -/
theorem inverseScan_lt {mf f n y0 y : Nat} (h : inverseScan mf f n y0 = some y) : y < y0 + n := by
  induction n generalizing y0 with
  | zero => simp [inverseScan] at h
  | succ n ih =>
    unfold inverseScan at h
    split at h
    · cases h
      omega
    · have := ih h
      omega

theorem rootBits_mul_self_le {a n s : Nat} (h : s * s ≤ a) : rootBits a n s * rootBits a n s ≤ a := by
  induction n generalizing s with
  | zero => exact h
  | succ n ih =>
    unfold rootBits
    split
    · next hkeep => exact ih hkeep
    · exact ih h

theorem isqrt_le_self (a : Nat) : isqrt a ≤ a :=
  (Nat.le_mul_self _).trans (rootBits_mul_self_le (by simp))

/-! ### The reducer, the exponent loop and the Garner step -/

theorem getD_entries_build_le {m : Nat} (hm : 0 < m) (i : Nat) : (Bank.build m).entries.getD i 0 ≤ m := by
  rw [List.getD_eq_getElem?_getD]
  cases h : (Bank.build m).entries[i]? with
  | none => exact Nat.zero_le m
  | some x =>
    obtain ⟨j, -, rfl⟩ := List.mem_map.mp (List.mem_of_getElem? h)
    exact (Nat.mod_lt _ hm).le

/-- Each scaled digit adds less than `B` times the bound of the entries (R252). -/
theorem foldDigits_le {entries : List Nat} {m : Nat} (he : ∀ i, entries.getD i 0 ≤ m) (v n i y : Nat) :
    foldDigits entries v n i y ≤ y + n * (radix * m) := by
  induction n generalizing i y with
  | zero => simp [foldDigits]
  | succ n ih =>
    have hdigit : digit v i * entries.getD i 0 ≤ radix * m := Nat.mul_le_mul (digit_lt v i).le (he i)
    calc foldDigits entries v (n + 1) i y
        ≤ y + digit v i * entries.getD i 0 + n * (radix * m) := ih (i + 1) _
      _ ≤ y + radix * m + n * (radix * m) := by omega
      _ = y + (n + 1) * (radix * m) := by ring

/-- REDUCE's digit sum fits in as many digits as the table has entries: `LEN = 2·k + 10` leaves room for it (R251, R252). -/
theorem looseReduce_build_lt {m v : Nat} (hm : 0 < m) (hv : ndig v ≤ tableLen (ndig m)) :
    (Bank.build m).looseReduce v < radix ^ tableLen (ndig m) := by
  have hk := ndig_pos m
  have hmk := lt_radix_pow_ndig m
  unfold Bank.looseReduce
  split
  · exact (lt_radix_pow_ndig v).trans_le (Nat.pow_le_pow_right radix_pos hv)
  · rw [show (Bank.build m).k = ndig m from rfl]
    generalize ndig m = k at *
    have hterms : ndig v - (k - 1) ≤ k + 11 := by unfold tableLen at hv; omega
    have hlow : v % radix ^ (k - 1) < radix ^ (k + 1) :=
      (Nat.mod_lt _ (Nat.pow_pos radix_pos)).trans_le (Nat.pow_le_pow_right radix_pos (by omega))
    have hcount : k + 12 ≤ radix ^ (k + 9) := by
      rw [radix_pow]
      exact Nat.lt_two_pow_self.le.trans (Nat.pow_le_pow_right (by decide) (by omega))
    calc foldDigits (Bank.build m).entries v (ndig v - (k - 1)) (k - 1) (v % radix ^ (k - 1))
        ≤ v % radix ^ (k - 1) + (ndig v - (k - 1)) * (radix * m) := foldDigits_le (getD_entries_build_le hm) _ _ _ _
      _ < radix ^ (k + 1) + (k + 11) * radix ^ (k + 1) := by
        refine Nat.add_lt_add_of_lt_of_le hlow (Nat.mul_le_mul hterms ?_)
        rw [Nat.pow_succ']
        exact Nat.mul_le_mul_left _ hmk.le
      _ = (k + 12) * radix ^ (k + 1) := by ring
      _ ≤ radix ^ (k + 9) * radix ^ (k + 1) := Nat.mul_le_mul_right _ hcount
      _ = radix ^ tableLen k := by rw [← Nat.pow_add, tableLen]; congr 1; omega

/-- A power modulo `m ≥ 1` is at most `m`; it is `m` only for exponent 0 and `m = 1` (R230). -/
theorem power_le (bk : Bank) (v e : Nat) {m : Nat} (hm : 0 < m) : bk.power v e m ≤ m := by
  unfold Bank.power
  split
  · exact hm
  · exact (Nat.mod_lt _ hm).le

/-- The Garner step of two residues is between 0 and `P·Q` (R290). -/
theorem natAbs_garner_le {x : CrtKey} {m1 m2 : Int} (hp : 0 < x.p) (hq : 0 ≤ x.q) (h0 : 0 ≤ m2) (h2 : m2 ≤ x.q) :
    (garner x m1 m2).natAbs ≤ x.p.natAbs * x.q.natAbs := by
  have hlow := Int.emod_nonneg (x.qInv * (m1 - m2)) hp.ne'
  have hhigh := Int.emod_lt_of_pos (x.qInv * (m1 - m2)) hp
  have hprod : 0 ≤ x.qInv * (m1 - m2) % x.p * x.q := mul_nonneg hlow hq
  have hbound : garner x m1 m2 ≤ x.p * x.q := by unfold garner; nlinarith
  have hnonneg : 0 ≤ garner x m1 m2 := by unfold garner; omega
  rw [← Int.natAbs_mul]
  omega

/-! ### Residue vectors -/

theorem slotsBelow_replicate_zero {primes : List Nat} (hp : ∀ p ∈ primes, 0 < p) :
    slotsBelow (List.replicate primes.length 0) primes = true := by
  induction primes with
  | nil => rfl
  | cons p ps ih => simp_all [List.replicate_succ, slotsBelow]

theorem slotsBelow_residues {primes : List Nat} (hp : ∀ p ∈ primes, 0 < p) (x : Nat) :
    slotsBelow (residues primes x) primes = true := by
  induction primes with
  | nil => rfl
  | cons p ps ih =>
    have hmod : x % p < p := Nat.mod_lt _ (hp p List.mem_cons_self)
    have hrest := ih fun q hq => hp q (List.mem_cons_of_mem _ hq)
    simpa [residues, slotsBelow, hmod] using hrest

/-- A slot function that keeps one slot below its prime keeps every vector so (R274). -/
theorem slotsBelow_slotwise {f : Nat → Nat → Nat → Nat} (hf : ∀ p x y, x < p → y < p → f p x y < p)
    {primes xs ys : List Nat} (hx : slotsBelow xs primes = true) (hy : slotsBelow ys primes = true) :
    slotsBelow (slotwise f primes xs ys) primes = true := by
  induction primes generalizing xs ys with
  | nil => rfl
  | cons p ps ih =>
    cases xs with
    | nil => simp [slotsBelow] at hx
    | cons x xs =>
      cases ys with
      | nil => simp [slotsBelow] at hy
      | cons y ys =>
        simp only [slotsBelow, Bool.and_eq_true, decide_eq_true_eq] at hx hy
        simp [slotwise, slotsBelow, hf p x y hx.1 hy.1, ih hx.2 hy.2]

theorem slotAdd_lt (p x y : Nat) (hx : x < p) (hy : y < p) : slotAdd p x y < p := by
  unfold slotAdd
  split <;> omega

theorem slotSub_lt (p x y : Nat) (hx : x < p) (_ : y < p) : slotSub p x y < p := by
  unfold slotSub
  split <;> omega

theorem slotMul_lt (p x y : Nat) (hx : x < p) (_ : y < p) : slotMul p x y < p :=
  Nat.mod_lt _ (Nat.zero_lt_of_lt hx)

end Sys2Proof.Machine
end

section
/-! PROOFS. The part of the invariant that speaks of the data (R31, R37, R42, R58), what each write of a command or of the
host needs to keep it, and what a sound running command knows of its operands. -/

namespace Sys2Proof.Machine

/-- The data of a sound state: all of `State.Sound` but what it says of endings and of the running command. -/
structure DataSound (s : State) : Prop where
  config : s.cfg.Valid
  registers : ∀ r : BReg, s.fits s.b[r] = true
  banks : ∀ t : BankNo, Bank.Sound s.cfg s.tbl[t]
  vectors : ∀ r : VReg, slotsBelow s.rv[r] s.cfg.slotPrimes = true
  selector : s.wsel &&& wselMask = s.wsel

theorem State.Sound.data {s : State} (h : s.Sound) : DataSound s :=
  ⟨h.config, h.registers, h.banks, h.vectors, h.selector⟩

section
variable {s t : State}

theorem DataSound.of_eq (h : DataSound s) (hcfg : t.cfg = s.cfg) (hb : t.b = s.b) (htbl : t.tbl = s.tbl)
    (hrv : t.rv = s.rv) (hwsel : t.wsel = s.wsel) : DataSound t where
  config := hcfg ▸ h.config
  registers r := by simpa only [State.fits, hcfg, hb] using h.registers r
  banks k := by simpa only [hcfg, htbl] using h.banks k
  vectors r := by simpa only [hcfg, hrv] using h.vectors r
  selector := by simpa only [hwsel] using h.selector

theorem DataSound.setBig (h : DataSound s) (r : BReg) {v : Int} (hv : s.fits v = true) : DataSound (s.setBig r v) where
  config := h.config
  registers q := by
    by_cases hq : q = r
    · rw [hq, State.setBig_same]
      exact hv
    · rw [State.setBig_other s v hq]
      exact h.registers q
  banks := h.banks
  vectors := h.vectors
  selector := h.selector

theorem DataSound.setBank (h : DataSound s) (k : BankNo) {bk : Bank} (hbk : Bank.Sound s.cfg bk) :
    DataSound (s.setBank k bk) where
  config := h.config
  registers := h.registers
  banks q := by
    by_cases hq : q = k
    · rw [hq, State.setBank_same]
      exact hbk
    · rw [State.setBank_other s bk hq]
      exact h.banks q
  vectors := h.vectors
  selector := h.selector

theorem DataSound.setVec (h : DataSound s) (r : VReg) {x : List Nat} (hx : slotsBelow x s.cfg.slotPrimes = true) :
    DataSound (s.setVec r x) where
  config := h.config
  registers := h.registers
  banks := h.banks
  vectors q := by
    by_cases hq : q = r
    · rw [hq, State.setVec_same]
      exact hx
    · rw [State.setVec_other s x hq]
      exact h.vectors q
  selector := h.selector

end

/-! ### What fits -/

section
variable {s : State} {v w : Int}

theorem fits_of_natAbs_le (hw : s.fits w = true) (h : v.natAbs ≤ w.natAbs) : s.fits v = true := by
  rw [State.fits_iff] at hw ⊢
  exact h.trans_lt hw

theorem radix_pow_le_of_valid {c : Config} (hc : c.Valid) {n : Nat} (hn : n ≤ 12) : radix ^ n ≤ radix ^ c.cap :=
  Nat.pow_le_pow_right radix_pos (hn.trans hc.1)

/-- A number of at most 64 bits fits (R7: CAP is at least 12). -/
theorem fits_of_lt_two_pow (hc : s.cfg.Valid) (h : v.natAbs < 2 ^ 64) : s.fits v = true := by
  rw [State.fits_iff]
  have hcap := radix_pow_le_of_valid hc (show 2 ≤ 12 by decide)
  exact h.trans_le (by simpa [radix] using hcap)

theorem arg64_lt (s : State) : s.arg64 < 2 ^ 64 := by
  have h0 := s.arg0.isLt
  have h1 := s.arg1.isLt
  unfold State.arg64
  omega

/-- A table that is not too long has at most CAP entries (R251). -/
theorem tableLen_le_cap {m : Nat} (h : s.tableTooLong m = false) : tableLen (ndig m) ≤ s.cfg.cap := by
  simpa [State.tableTooLong] using h

/-- A table built for a modulus that is not too long is sound (R37, R253). -/
theorem sound_build {m : Nat} (hm : 0 < m) (h : s.tableTooLong m = false) : Bank.Sound s.cfg (Bank.build m) := by
  have hlen := tableLen_le_cap h
  simpa [Bank.Sound, Bank.build] using ⟨hm, hlen⟩

end

/-- A bank that is not stale for `m` is the table of `m` and fits (R37, R311). -/
theorem eq_build_of_not_stale {c : Config} {bk : Bank} {m : Int} (hbk : Bank.Sound c bk) (h : bk.staleFor m = false) :
    bk = Bank.build m.toNat ∧ 0 < m ∧ tableLen (ndig m.toNat) ≤ c.cap := by
  obtain ⟨hvalid, hmod⟩ : bk.valid = true ∧ (bk.modulus : Int) = m := by simpa [Bank.staleFor] using h
  simp only [Bank.Sound, hvalid, if_true] at hbk
  obtain ⟨hbuild, hpos, hlen⟩ := hbk
  have hm : m.toNat = bk.modulus := by omega
  rw [hm]
  exact ⟨hbuild, by omega, by rw [hbuild] at hlen; exact hlen⟩

/-! ### The operands of a running command -/

/-- What a sound state in which command `i` runs knows: sound data, operands that fit, and checks that were passed. -/
structure Ready (i : Instr) (s : State) : Prop where
  data : DataSound s
  operands : ∀ r : BReg, s.fits (s.opBig r) = true
  checked : s.segment ≠ 0 → s.checksPassed i = true

theorem State.Sound.ready {s : State} {j : Job} {i : Instr} (h : s.Sound) (hp : s.phase = .run j)
    (hd : decode j.word = .ok i) : Ready i s where
  data := h.data
  operands r := by
    rw [State.opBig_run s hp, (h.running j hp).snap]
    exact h.registers r
  checked hseg := by
    rw [State.segment_run s hp] at hseg
    obtain ⟨i', hd', hi'⟩ := (h.running j hp).checked hseg
    cases hd.symm.trans hd'
    exact hi'

end Sys2Proof.Machine
end

section
/-! PROOFS. What one core step of a command can do, said once for all 36 (R317, R323): it ends with a fault of its own
opcode, by cancellation or with success, or it moves on to a later segment. The shared operations come first. -/

namespace Sys2Proof.Machine

/-- `s` and `u` agree but for what a successful command may write: registers, banks, vectors, RES, flags, draws. -/
def ResultsOnly (s u : State) : Prop :=
  u = { s with b := u.b, tbl := u.tbl, rv := u.rv, res0 := u.res0, res1 := u.res1, flags := u.flags, draws := u.draws }

/-- `s` and `u` agree but for the banks. -/
def BanksOnly (s u : State) : Prop := u = { s with tbl := u.tbl }

/-- One core step of command `i` from `s`. `sound` says that what was written keeps the invariant's data, and that the
checks of a command that goes on still hold nothing. -/
inductive CommandStep (i : Instr) (s : State) : State → Prop
  | fault (c : FaultCode) (named : c ≠ .none) : CommandStep i s (s.failWith (BitVec.ofNat 8 i.opcode) c)
  | cancel (safePoints : hasSafePoints i = true) (pending : s.cancelPending = true) : CommandStep i s s.cancelEnd
  | finish (u : State) (frame : ResultsOnly s u) (sound : Ready i s → DataSound u) : CommandStep i s u.succeed
  | goOn (u : State) (w : Word) (n : Nat) (safePoints : hasSafePoints i = true) (frame : BanksOnly s u)
      (sound : Ready i s → DataSound u ∧ u.checksPassed i = true) : CommandStep i s (u.stopAt w n)

/-- The answer `r` is a next state, one that a core step of command `i` can reach. -/
def Answers (i : Instr) (s : State) (r : Result) : Prop := ∃ t, r = .next t ∧ CommandStep i s t

/-! ### The shared operations -/

section
variable {i : Instr} {s : State}

theorem Answers.finish {u : State} (frame : ResultsOnly s u) (sound : Ready i s → DataSound u) :
    Answers i s (.next u.succeed) :=
  ⟨_, rfl, .finish u frame sound⟩

theorem Answers.goOn {u : State} {w : Word} {n : Nat} (safePoints : hasSafePoints i = true) (frame : BanksOnly s u)
    (sound : Ready i s → DataSound u ∧ u.checksPassed i = true) : Answers i s (.next (u.stopAt w n)) :=
  ⟨_, rfl, .goOn u w n safePoints frame sound⟩

theorem Answers.fault {opc : Byte} {c : FaultCode} (hopc : opc = BitVec.ofNat 8 i.opcode) (named : c ≠ .none) :
    Answers i s (.next (s.failWith opc c)) :=
  ⟨_, rfl, hopc ▸ .fault c named⟩

/-- The check phase: a named fault, or what follows when no check holds. -/
theorem Answers.guarded {opc : Byte} {checks : List (Bool × FaultCode)} {k : Result}
    (hopc : opc = BitVec.ofNat 8 i.opcode) (named : ∀ x ∈ checks, x.2 ≠ .none)
    (hk : firstFault checks = none → Answers i s k) : Answers i s (s.guarded opc checks k) := by
  rcases s.guarded_cases opc checks k with ⟨c, hc, heq⟩ | ⟨hpass, heq⟩
  · rw [heq]
    exact .fault hopc (named _ (firstFault_mem hc))
  · rw [heq]
    exact hk hpass

/-- A safe point: the end by cancellation, or what follows. -/
theorem Answers.poll {k : Result} (safePoints : hasSafePoints i = true) (hk : Answers i s k) :
    Answers i s (s.poll k) := by
  rcases s.poll_cases k with ⟨hpending, heq⟩ | ⟨-, heq⟩
  · rw [heq]
    exact ⟨_, rfl, .cancel safePoints hpending⟩
  · rw [heq]
    exact hk

/-- A big result that fits. -/
theorem Answers.putBig {d : BReg} {v : Int} (hfits : Ready i s → s.fits v = true) :
    Answers i s (.next (s.putBig d v).succeed) :=
  .finish rfl fun h => (h.data.setBig d (hfits h)).of_eq rfl rfl rfl rfl rfl

theorem Answers.concludeBig {opc : Byte} {d : BReg} {v : Int} (hopc : opc = BitVec.ofNat 8 i.opcode) :
    Answers i s (s.concludeBig opc d v) := by
  rcases s.concludeBig_cases opc d v with ⟨hfits, heq⟩ | ⟨-, heq⟩
  · rw [heq]
    exact .putBig fun _ => hfits
  · rw [heq]
    exact .fault hopc (by decide)

/-- Results in RES and the flags alone. -/
theorem Answers.flagsAndRes {u : State} (frame : u = { s with res0 := u.res0, res1 := u.res1, flags := u.flags }) :
    Answers i s (.next u.succeed) := by
  rw [frame]
  exact .finish rfl fun h => h.data.of_eq rfl rfl rfl rfl rfl

/-- A vector whose slots are below their primes. -/
theorem Answers.setVec {d : VReg} {x : List Nat} (hx : Ready i s → slotsBelow x s.cfg.slotPrimes = true) :
    Answers i s (.next (s.setVec d x).succeed) :=
  .finish rfl fun h => h.data.setVec d (hx h)

theorem divisionChecks_pass {x d : Int} (h : firstFault (divisionChecks x d) = none) : 0 ≤ x ∧ 0 < d := by
  obtain ⟨hne, hx, hd⟩ : d ≠ 0 ∧ 0 ≤ x ∧ 0 ≤ d := by simpa [firstFault_eq_none, divisionChecks] using h
  omega

theorem fits_ediv {x d : Int} (hx : s.fits x = true) (h : 0 ≤ x) : s.fits (x / d) = true :=
  fits_of_natAbs_le hx (by simpa [Int.natAbs_ediv_of_nonneg h] using Nat.div_le_self _ _)

theorem fits_emod {x d : Int} (hd : s.fits d = true) (h : 0 < d) : s.fits (x % d) = true :=
  fits_of_natAbs_le hd (by have := Int.emod_nonneg x h.ne'; have := Int.emod_lt_of_pos x h; omega)

end

/-! ### Commands without safe points -/

section
variable (s : State)

theorem execSetu64_answers (d : BReg) : Answers (.setu64 d) s (execSetu64 d s) :=
  .putBig fun h => fits_of_lt_two_pow h.data.config (arg64_lt s)

theorem natAbs_withSignOf (v : Int) (m : Nat) : (withSignOf v m).natAbs = m := by
  unfold withSignOf
  split <;> simp

theorem execShl_answers (d a : BReg) : Answers (.shl d a) s (execShl d a s) := by
  unfold execShl
  split
  · exact .fault rfl (by decide)
  · next hnear =>
    split
    · exact .putBig fun h => fits_of_lt_two_pow h.data.config (by decide)
    · next hne =>
      refine .putBig fun _ => ?_
      rw [State.fits_iff, natAbs_withSignOf]
      have hbits : s.opBig a ≠ 0 → bitlen (s.opBig a).natAbs + s.arg32 ≤ 32 * s.cfg.cap := by
        simpa [State.shiftTooFar] using hnear
      exact shifted_lt_of_bitlen (hbits hne)

theorem execShr_answers (d a : BReg) : Answers (.shr d a) s (execShr d a s) :=
  .putBig fun h => fits_of_natAbs_le (h.operands a) (by
    rw [natAbs_withSignOf, Nat.shiftRight_eq_div_pow]
    exact Nat.div_le_self _ _)

theorem execRndodd_answers (d : BReg) : Answers (.rndodd d) s (execRndodd d s) := by
  refine .guarded rfl (by simp) fun hpass => .finish rfl fun h => ?_
  obtain ⟨-, hcount⟩ : s.arg32 ≠ 0 ∧ s.arg32 ≤ s.cfg.cap := by simpa [firstFault_eq_none] using hpass
  have hfits : s.fits (ofWords (forceOddFull (s.drawWords s.arg32)) : Int) = true := by
    have hlt := ofWords_lt (forceOddFull (s.drawWords s.arg32))
    rw [length_forceOddFull, length_drawWords] at hlt
    rw [State.fits_iff]
    exact hlt.trans_le (Nat.pow_le_pow_right radix_pos hcount)
  exact (h.data.setBig d hfits).of_eq rfl rfl rfl rfl rfl

theorem execDiv_answers (d a b c : BReg) : Answers (.div d a b c) s (execDiv d a b c s) := by
  refine .guarded rfl (by simp [divisionChecks]) fun hpass => .finish rfl fun h => ?_
  obtain ⟨hx, hd⟩ := divisionChecks_pass hpass
  have hquotient := h.data.setBig d (fits_ediv (d := s.opBig b) (h.operands a) hx)
  have hremainder := fits_emod (x := s.opBig a) (h.operands b) hd
  exact (hquotient.setBig c hremainder).of_eq rfl rfl rfl rfl rfl

theorem execSdiv_answers (d a : BReg) : Answers (.sdiv d a) s (execSdiv d a s) := by
  refine .guarded rfl (by simp [divisionChecks]) fun hpass => .finish rfl fun h => ?_
  obtain ⟨hx, -⟩ := divisionChecks_pass hpass
  exact (h.data.setBig d (fits_ediv (h.operands a) hx)).of_eq rfl rfl rfl rfl rfl

theorem execGcd_answers (d a b : BReg) : Answers (.gcd d a b) s (execGcd d a b s) := by
  refine .guarded rfl (by simp [gcdChecks]) fun hpass => .putBig fun h => ?_
  obtain ⟨⟨hne, -⟩, hnonneg, -⟩ : (s.opBig a ≠ 0 ∧ s.opBig b ≠ 0) ∧ 0 ≤ s.opBig a ∧ 0 ≤ s.opBig b := by
    simpa [firstFault_eq_none, gcdChecks] using hpass
  refine fits_of_natAbs_le (h.operands a) ?_
  have hle := Nat.gcd_le_left (s.opBig b).toNat (show 0 < (s.opBig a).toNat by omega)
  omega

theorem execInv_answers (d a b : BReg) : Answers (.inv d a b) s (execInv d a b s) := by
  refine .guarded rfl (by simp [invChecks]) fun hpass => ?_
  have hpos : 0 < s.opBig b := by
    obtain ⟨⟨-, hne⟩, ⟨-, hnonneg⟩, -⟩ :
        (s.opBig a ≠ 0 ∧ s.opBig b ≠ 0) ∧ (0 ≤ s.opBig a ∧ 0 ≤ s.opBig b) ∧ s.opBig b ≠ 1 := by
      simpa [firstFault_eq_none, invChecks] using hpass
    omega
  split
  · exact .fault rfl (by decide)
  · next t ht =>
    split
    · exact .fault rfl (by decide)
    · refine .putBig fun h => fits_of_natAbs_le (h.operands b) (natAbs_normalised_le hpos.le ?_)
      have hle := natAbs_inverseCoefficient_le (by omega) ht
      omega

/-- INVSE's quotient `(y·m + 1) / f` is at most `m`, since `y < f` (R202). -/
theorem natAbs_invse_le {m : Int} {f y : Nat} (hm : 0 < m) (hy : y < f) : (((y : Int) * m + 1) / f).natAbs ≤ m.natAbs := by
  have hf : (0 : Int) < f := by omega
  have hnum : 0 ≤ (y : Int) * m + 1 := by positivity
  have hle : ((y : Int) * m + 1) / f ≤ m := by
    refine Int.ediv_le_of_le_mul hf ?_
    have : (y : Int) + 1 ≤ f := by exact_mod_cast hy
    nlinarith
  have hnonneg := Int.ediv_nonneg hnum hf.le
  omega

theorem execInvse_answers (d a : BReg) : Answers (.invse d a) s (execInvse d a s) := by
  refine .guarded rfl (by simp [invseChecks]) fun hpass => ?_
  obtain ⟨hm, hf, -⟩ : 1 < s.opBig a ∧ 1 < s.arg32 ∧ s.arg32 < 1000000 := by
    simpa [firstFault_eq_none, invseChecks] using hpass
  split
  · exact .fault rfl (by decide)
  · next y hy =>
    have hlt := inverseScan_lt hy
    exact .putBig fun h => fits_of_natAbs_le (h.operands a) (natAbs_invse_le (by omega) (by omega))

theorem execSmallfact_answers (a : BReg) : Answers (.smallfact a) s (execSmallfact a s) :=
  .guarded rfl (by simp) fun _ => .flagsAndRes rfl

theorem execIsqrt_answers (d a : BReg) : Answers (.isqrt d a) s (execIsqrt d a s) := by
  refine .guarded rfl (by simp) fun hpass => .finish rfl fun h => ?_
  have hroot := isqrt_le_self (s.opBig a).toNat
  have hfits : s.fits (isqrt (s.opBig a).toNat : Int) = true := fits_of_natAbs_le (h.operands a) (by omega)
  exact (h.data.setBig d hfits).of_eq rfl rfl rfl rfl rfl

theorem execRem32_answers (a : BReg) : Answers (.rem32 a) s (execRem32 a s) :=
  .guarded rfl (by simp [divisionChecks]) fun _ => .flagsAndRes rfl

theorem execRem64_answers (a : BReg) : Answers (.rem64 a) s (execRem64 a s) :=
  .guarded rfl (by simp [divisionChecks]) fun _ => .flagsAndRes rfl

theorem execTblbuild_answers (a : BReg) (k : BankNo) : Answers (.tblbuild a k) s (execTblbuild a k s) := by
  refine .guarded rfl (by simp [State.buildChecks]) fun hpass => .finish rfl fun h => ?_
  obtain ⟨hne, hnonneg, hfits⟩ : s.opBig a ≠ 0 ∧ 0 ≤ s.opBig a ∧ s.tableTooLong (s.opBig a).toNat = false := by
    simpa [firstFault_eq_none, State.buildChecks] using hpass
  exact h.data.setBank k (sound_build (by omega) hfits)

theorem execReduce_answers (d a : BReg) (k : BankNo) : Answers (.reduce d a k) s (execReduce d a k s) := by
  refine .guarded rfl (by simp [reduceChecks]) fun hpass => .putBig fun h => ?_
  obtain ⟨-, hvalid, hlen⟩ :
      0 ≤ s.opBig a ∧ (s.bank k).valid = true ∧ ndig (s.opBig a).toNat ≤ (s.bank k).len := by
    simpa [firstFault_eq_none, reduceChecks] using hpass
  have hbank : Bank.Sound s.cfg (s.bank k) := h.data.banks k
  simp only [Bank.Sound, hvalid, if_true] at hbank
  obtain ⟨hbuild, hpos, hcap⟩ := hbank
  have hlenEq : (s.bank k).len = tableLen (ndig (s.bank k).modulus) := congrArg Bank.len hbuild
  rw [hlenEq] at hlen hcap
  rw [State.fits_iff, hbuild]
  exact (looseReduce_build_lt hpos hlen).trans_le (Nat.pow_le_pow_right radix_pos hcap)

theorem execRvfrom_answers (d : VReg) (a : BReg) : Answers (.rvfrom d a) s (execRvfrom d a s) :=
  .guarded rfl (by simp) fun _ => .setVec fun _ =>
    slotsBelow_residues (fun _ hp => (prime_of_mem_slotPrimes hp).pos) _

theorem slotwise_answers {i : Instr} {f : Nat → Nat → Nat → Nat} (hf : ∀ p x y, x < p → y < p → f p x y < p)
    (d a b : VReg) :
    Answers i s (.next (s.setVec d (slotwise f s.cfg.slotPrimes (s.opVec a) (s.opVec b))).succeed) :=
  .setVec fun h => slotsBelow_slotwise hf (h.data.vectors a) (h.data.vectors b)

/-! ### Commands with safe points -/

theorem modexp_of_checksPassed {d a b c : BReg} {k : BankNo} {u : Use}
    (h : s.checksPassed (.modexp d a b c k u) = true) :
    0 < s.opBig c ∧ (u = .fresh → s.tableTooLong (s.opBig c).toNat = false) := by
  obtain ⟨hne, ⟨-, -, hnonneg⟩, -, hshort⟩ :
      s.opBig c ≠ 0 ∧ (0 ≤ s.opBig a ∧ 0 ≤ s.opBig b ∧ 0 ≤ s.opBig c) ∧
        (u = .reuse → (s.bank k).staleFor (s.opBig c) = false) ∧
        (u = .fresh → s.tableTooLong (s.opBig c).toNat = false) := by
    have hpass : firstFault (s.modexpChecks (s.opBig a) (s.opBig b) (s.opBig c) k u) = none := of_decide_eq_true h
    simpa [firstFault_eq_none, State.modexpChecks] using hpass
  exact ⟨by omega, hshort⟩

theorem execModexp_answers (d a b c : BReg) (k : BankNo) (u : Use) :
    Answers (.modexp d a b c k u) s (execModexp d a b c k u s) := by
  unfold execModexp
  split
  · refine .guarded rfl (by simp [State.modexpChecks]) fun hpass => ?_
    exact .goOn rfl rfl fun h => ⟨h.data, decide_eq_true hpass⟩
  · next hseg =>
    cases u with
    | fresh =>
      refine .poll rfl (.goOn rfl rfl fun h => ?_)
      have hchecked := h.checked (by omega)
      obtain ⟨hpos, hshort⟩ := modexp_of_checksPassed s hchecked
      exact ⟨h.data.setBank k (sound_build (by omega) (hshort rfl)), hchecked⟩
    | reuse => exact .poll rfl (.goOn rfl rfl fun h => ⟨h.data, h.checked (by omega)⟩)
  · next n hseg =>
    refine .poll rfl (.putBig fun h => ?_)
    obtain ⟨hpos, -⟩ := modexp_of_checksPassed s (h.checked (by omega))
    refine fits_of_natAbs_le (h.operands c) ?_
    have hle := power_le (s.bank k) (s.opBig a).toNat (s.opBig b).toNat (show 0 < (s.opBig c).toNat by omega)
    omega

theorem fermat_of_checksPassed {a : BReg} {k : BankNo} (h : s.checksPassed (.fermat a k) = true) :
    1 < s.opBig a ∧ s.tableTooLong (s.opBig a).toNat = false := by
  obtain ⟨hc, -, hshort⟩ :
      1 < s.opBig a ∧ s.arg32 ≤ s.cfg.primeCount ∧ s.tableTooLong (s.opBig a).toNat = false := by
    simpa [State.checksPassed, firstFault_eq_none, State.fermatChecks] using h
  exact ⟨hc, hshort⟩

theorem fermat1_of_checksPassed {a : BReg} {k : BankNo} (h : s.checksPassed (.fermat1 a k) = true) :
    1 < s.opBig a ∧ s.tableTooLong (s.opBig a).toNat = false := by
  simpa [State.checksPassed, firstFault_eq_none, State.fermat1Checks] using h

theorem execFermat_answers (a : BReg) (k : BankNo) : Answers (.fermat a k) s (execFermat a k s) := by
  unfold execFermat
  split
  · refine .guarded rfl (by simp [State.fermatChecks]) fun hpass => ?_
    exact .goOn rfl rfl fun h => ⟨h.data, decide_eq_true hpass⟩
  · next hseg =>
    have hbuilt : Ready (.fermat a k) s → DataSound (s.setBank k (Bank.build (s.opBig a).toNat)) ∧
        (s.setBank k (Bank.build (s.opBig a).toNat)).checksPassed (.fermat a k) = true := by
      intro h
      have hchecked := h.checked (by omega)
      obtain ⟨hpos, hshort⟩ := fermat_of_checksPassed s hchecked
      exact ⟨h.data.setBank k (sound_build (by omega) hshort), hchecked⟩
    refine .poll rfl ?_
    split
    · exact .finish rfl fun h => (hbuilt h).1.of_eq rfl rfl rfl rfl rfl
    · exact .goOn rfl rfl hbuilt
  · next n hseg =>
    have hkept : Ready (.fermat a k) s → DataSound s ∧ s.checksPassed (.fermat a k) = true := fun h =>
      ⟨h.data, h.checked (by omega)⟩
    split
    · exact .poll rfl (.goOn rfl rfl hkept)
    · refine .poll rfl ?_
      split
      · exact .flagsAndRes rfl
      · split
        · exact .goOn rfl rfl hkept
        · exact .flagsAndRes rfl

theorem execFermat1_answers (a : BReg) (k : BankNo) : Answers (.fermat1 a k) s (execFermat1 a k s) := by
  unfold execFermat1
  split
  · refine .guarded rfl (by simp [State.fermat1Checks]) fun hpass => ?_
    exact .goOn rfl rfl fun h => ⟨h.data, decide_eq_true hpass⟩
  · next hseg =>
    refine .poll rfl (.goOn rfl rfl fun h => ?_)
    have hchecked := h.checked (by omega)
    obtain ⟨hpos, hshort⟩ := fermat1_of_checksPassed s hchecked
    exact ⟨h.data.setBank k (sound_build (by omega) hshort), hchecked⟩
  · next hseg => exact .poll rfl (.goOn rfl rfl fun h => ⟨h.data, h.checked (by omega)⟩)
  · refine .poll rfl ?_
    split
    · exact .flagsAndRes rfl
    · exact .flagsAndRes rfl

theorem crtChecks_pass {x : CrtKey} {u : Use} (h : firstFault (s.crtChecks x u) = none) :
    0 < x.p ∧ 0 < x.q ∧
      (u = .reuse → (s.bank 0).staleFor x.p = false ∧ (s.bank 1).staleFor x.q = false) ∧
      (u = .fresh → s.tableTooLong x.p.toNat = false ∧ s.tableTooLong x.q.toNat = false) := by
  obtain ⟨⟨hp0, hq0⟩, ⟨-, hp, hq, -⟩, hstale, hshort⟩ :
      (x.p ≠ 0 ∧ x.q ≠ 0) ∧ (0 ≤ x.c ∧ 0 ≤ x.p ∧ 0 ≤ x.q ∧ 0 ≤ x.dP ∧ 0 ≤ x.dQ ∧ 0 ≤ x.qInv) ∧
        (u = .reuse → (s.bank 0).staleFor x.p = false ∧ (s.bank 1).staleFor x.q = false) ∧
        (u = .fresh → s.tableTooLong x.p.toNat = false ∧ s.tableTooLong x.q.toNat = false) := by
    simpa [firstFault_eq_none, State.crtChecks] using h
  exact ⟨by omega, by omega, hstale, hshort⟩

/-- Both tables of a CRT that passed its checks fit, fresh or reused (R251, R290, R37). -/
theorem tableLen_le_of_crtChecks {x : CrtKey} {u : Use} (hs : DataSound s) (h : firstFault (s.crtChecks x u) = none) :
    tableLen (ndig x.p.toNat) ≤ s.cfg.cap ∧ tableLen (ndig x.q.toNat) ≤ s.cfg.cap := by
  obtain ⟨-, -, hreuse, hfresh⟩ := crtChecks_pass s h
  cases u with
  | fresh => exact ⟨tableLen_le_cap (hfresh rfl).1, tableLen_le_cap (hfresh rfl).2⟩
  | reuse =>
    obtain ⟨-, -, hp⟩ := eq_build_of_not_stale (hs.banks 0) (hreuse rfl).1
    obtain ⟨-, -, hq⟩ := eq_build_of_not_stale (hs.banks 1) (hreuse rfl).2
    exact ⟨hp, hq⟩

/-- CRT's result is at most `P·Q`, and each prime has less than half of CAP digits (R290, R251). -/
theorem fits_crtResult {x : CrtKey} {u : Use} (hs : DataSound s) (h : firstFault (s.crtChecks x u) = none) :
    s.fits (s.crtResult x) = true := by
  obtain ⟨hp, hq, -⟩ := crtChecks_pass s h
  obtain ⟨hlenP, hlenQ⟩ := tableLen_le_of_crtChecks s hs h
  have hm2 := power_le (s.bank 1) x.c.toNat x.dQ.toNat (show 0 < x.q.toNat by omega)
  have hgarner : (s.crtResult x).natAbs ≤ x.p.natAbs * x.q.natAbs :=
    natAbs_garner_le hp hq.le (Int.natCast_nonneg _) (by omega)
  rw [State.fits_iff]
  calc (s.crtResult x).natAbs ≤ x.p.natAbs * x.q.natAbs := hgarner
    _ = x.p.toNat * x.q.toNat := congrArg₂ (· * ·) (by omega) (by omega)
    _ < radix ^ ndig x.p.toNat * radix ^ ndig x.q.toNat :=
      Nat.mul_lt_mul'' (lt_radix_pow_ndig _) (lt_radix_pow_ndig _)
    _ = radix ^ (ndig x.p.toNat + ndig x.q.toNat) := (Nat.pow_add _ _ _).symm
    _ ≤ radix ^ s.cfg.cap := Nat.pow_le_pow_right radix_pos (by unfold tableLen at hlenP hlenQ; omega)

theorem execCrt_answers (d a : BReg) (g : KeyGroup) (u : Use) : Answers (.crt d a g u) s (execCrt d a g u s) := by
  unfold execCrt
  split
  · refine .guarded rfl (by simp [State.crtChecks]) fun hpass => ?_
    exact .goOn rfl rfl fun h => ⟨h.data, decide_eq_true hpass⟩
  · next hseg =>
    cases u with
    | fresh =>
      refine .poll rfl (.goOn rfl rfl fun h => ?_)
      have hchecked := h.checked (by omega)
      obtain ⟨hp, hq, -, hshort⟩ := crtChecks_pass s (of_decide_eq_true hchecked)
      obtain ⟨hshortP, hshortQ⟩ := hshort rfl
      exact ⟨(h.data.setBank 0 (sound_build (by omega) hshortP)).setBank 1 (sound_build (by omega) hshortQ),
        hchecked⟩
    | reuse => exact .poll rfl (.goOn rfl rfl fun h => ⟨h.data, h.checked (by omega)⟩)
  · next hseg => exact .poll rfl (.goOn rfl rfl fun h => ⟨h.data, h.checked (by omega)⟩)
  · next n hseg =>
    exact .poll rfl (.putBig fun h => fits_crtResult s h.data (of_decide_eq_true (h.checked (by omega))))

/-! ### Every command -/

/-- Every core step of every command answers a next state, one that `CommandStep` lists. -/
theorem exec_answers (i : Instr) : Answers i s (exec i s) := by
  cases i with
  | nop => exact .flagsAndRes (u := s) rfl
  | clr d => exact .putBig fun h => fits_of_lt_two_pow h.data.config (by decide)
  | setone d => exact .putBig fun h => fits_of_lt_two_pow h.data.config (by decide)
  | mov d a => exact .putBig fun h => h.operands a
  | setu64 d => exact execSetu64_answers s d
  | getu64 a => exact .flagsAndRes rfl
  | test a => exact .flagsAndRes rfl
  | cmp a b => exact .flagsAndRes rfl
  | shl d a => exact execShl_answers s d a
  | shr d a => exact execShr_answers s d a
  | addu64 d a => exact .concludeBig rfl
  | subu64 d a => exact .concludeBig rfl
  | rndodd d => exact execRndodd_answers s d
  | add d a b => exact .concludeBig rfl
  | sub d a b => exact .concludeBig rfl
  | mul d a b => exact .concludeBig rfl
  | sqr d a => exact .concludeBig rfl
  | div d a b c => exact execDiv_answers s d a b c
  | sdiv d a => exact execSdiv_answers s d a
  | rem32 a => exact execRem32_answers s a
  | rem64 a => exact execRem64_answers s a
  | gcd d a b => exact execGcd_answers s d a b
  | inv d a b => exact execInv_answers s d a b
  | invse d a => exact execInvse_answers s d a
  | smallfact a => exact execSmallfact_answers s a
  | isqrt d a => exact execIsqrt_answers s d a
  | modexp d a b c t u => exact execModexp_answers s d a b c t u
  | fermat a t => exact execFermat_answers s a t
  | fermat1 a t => exact execFermat1_answers s a t
  | tblbuild a t => exact execTblbuild_answers s a t
  | reduce d a t => exact execReduce_answers s d a t
  | rvfrom d a => exact execRvfrom_answers s d a
  | rvadd d a b => exact slotwise_answers s slotAdd_lt d a b
  | rvsub d a b => exact slotwise_answers s slotSub_lt d a b
  | rvmul d a b => exact slotwise_answers s slotMul_lt d a b
  | crt d a g u => exact execCrt_answers s d a g u

theorem commandStep_of_exec {i : Instr} {s t : State} (h : exec i s = .next t) : CommandStep i s t := by
  obtain ⟨u, hu, hstep⟩ := exec_answers s i
  cases h.symm.trans hu
  exact hstep

end

end Sys2Proof.Machine
end

section
/-! PROOFS. The invariant `State.Sound`: it holds after reset (R64, R350) and every step keeps it, event by event (R90). -/

namespace Sys2Proof.Machine

/-! ### Sound idle states -/

section
variable {s t : State}

/-- In an idle state the invariant is sound data and a sound record of the last ending. -/
theorem sound_of_idle (hdata : DataSound t) (hphase : t.phase = .idle) (hend : ¬(t.err = true ∧ t.cancelled = true))
    (hclear : t.err = false → t.faultCode = .none ∧ t.faultOpc = 0#8) (hset : t.err = true → t.faultCode ≠ .none) :
    t.Sound where
  config := hdata.config
  registers := hdata.registers
  banks := hdata.banks
  vectors := hdata.vectors
  selector := hdata.selector
  endings := hend
  faultClear := hclear
  faultSet := hset
  running j hj := by simp [hphase] at hj
  initial hi := by simp [hphase] at hi

/-- A fault leaves a sound state (R314, R317(b)). -/
theorem DataSound.sound_failWith (h : DataSound s) (opc : Byte) {c : FaultCode} (named : c ≠ .none) :
    (s.failWith opc c).Sound :=
  sound_of_idle (h.of_eq rfl rfl rfl rfl rfl) rfl (by simp) (by simp) fun _ => named

/-- An end by cancellation leaves a sound state (R317(c)). -/
theorem DataSound.sound_cancelEnd (h : DataSound s) : s.cancelEnd.Sound :=
  sound_of_idle (h.of_eq rfl rfl rfl rfl rfl) rfl (by simp) (by simp) (by simp)

/-- An end by success leaves a sound state (R317(a)). -/
theorem DataSound.sound_succeed (h : DataSound s) : s.succeed.Sound :=
  sound_of_idle (h.of_eq rfl rfl rfl rfl rfl) rfl (by simp) (by simp) (by simp)

/-- A host write to an idle core that keeps the data sound and the record of the last ending. -/
theorem State.Sound.of_idle_write (h : s.Sound) (hidle : s.phase = .idle) (hdata : DataSound t)
    (hphase : t.phase = s.phase) (herr : t.err = s.err) (hcancelled : t.cancelled = s.cancelled)
    (hcode : t.faultCode = s.faultCode) (hopc : t.faultOpc = s.faultOpc) : t.Sound := by
  refine sound_of_idle hdata (hphase.trans hidle) ?_ ?_ ?_
  · rw [herr, hcancelled]
    exact h.endings
  · rw [herr, hcode, hopc]
    exact h.faultClear
  · rw [herr, hcode]
    exact h.faultSet

/-- The end of initialisation keeps the invariant (R352). -/
theorem State.Sound.endInit (h : s.Sound) : s.endInit.Sound :=
  sound_of_idle (h.data.of_eq rfl rfl rfl rfl rfl) rfl h.endings h.faultClear h.faultSet

end

/-! ### Reset -/

theorem fits_zero (s : State) : s.fits 0 = true := by
  rw [State.fits_iff]
  exact Nat.pow_pos radix_pos

/-- The state after reset meets the invariant, for every choice of the parameters (R64). -/
theorem sound_resetOf {c : Config} (hc : c.Valid) : (State.resetOf c).Sound where
  config := hc
  registers r := by
    have hr : (State.resetOf c).b[r] = 0 := by simp [State.resetOf]
    rw [hr]
    exact fits_zero _
  banks k := by simp [State.resetOf, Bank.Sound, Bank.invalid]
  vectors r := by
    have hzero := slotsBelow_replicate_zero (primes := c.slotPrimes) fun _ hp => (prime_of_mem_slotPrimes hp).pos
    rw [length_slotPrimes hc] at hzero
    simpa [State.resetOf] using hzero
  selector := by simp [State.resetOf]
  endings := by simp [State.resetOf]
  faultClear := by simp [State.resetOf]
  faultSet := by simp [State.resetOf]
  running j hj := by simp [State.resetOf] at hj
  initial := by simp [State.resetOf]

/-! ### What the host side may change -/

/-- `s` and `t` agree but for the schedule, the draw counter, the host-side registers, CANCEL_PENDING and DONE, none of which
the invariant reads, save that DONE may not come to be set. -/
structure HostSideOnly (s t : State) : Prop where
  frame : t = { s with
    inputs := t.inputs, hostErr := t.hostErr, cancelPending := t.cancelPending, intEn := t.intEn, widx := t.widx
    readData := t.readData, draws := t.draws, done := t.done }
  done : t.done = true → s.done = true

theorem PortOnly.hostSideOnly {s t : State} (h : PortOnly s t) : HostSideOnly s t := by
  obtain ⟨_, _, _, rfl⟩ := h
  exact ⟨rfl, id⟩

theorem State.Sound.of_hostSideOnly {s t : State} (h : s.Sound) (hst : HostSideOnly s t) : t.Sound := by
  obtain ⟨frame, hdone⟩ := hst
  have hnotDone : s.done = false → t.done = false := fun hs =>
    Bool.eq_false_iff.mpr fun ht => Bool.eq_false_iff.mp hs (hdone ht)
  rw [frame]
  exact
    { config := h.config, registers := h.registers, banks := h.banks, vectors := h.vectors, selector := h.selector
      endings := h.endings, faultClear := h.faultClear, faultSet := h.faultSet
      running := fun j hj =>
        let hjob := h.running j hj
        { snap := hjob.snap, done := hnotDone hjob.done, err := hjob.err, cancelled := hjob.cancelled
          checked := hjob.checked }
      initial := fun hi => ⟨hnotDone (h.initial hi).1, (h.initial hi).2⟩ }

/-- Taking an event off the schedule keeps the invariant. -/
theorem State.Sound.withInputs {s : State} (h : s.Sound) (rest : List Input) :
    State.Sound { s with inputs := rest } :=
  h.of_hostSideOnly ⟨rfl, id⟩

/-! ### The core's turn -/

@[simp] theorem State.crtKey_stopAt (s : State) (w : Word) (n : Nat) (a : BReg) (g : KeyGroup) :
    (s.stopAt w n).crtKey a g = s.crtKey a g := by
  simp [State.crtKey]

/-- A stop at a safe point leaves what the checks read. -/
theorem State.checksPassed_stopAt (s : State) (w : Word) (n : Nat) (i : Instr) :
    (s.stopAt w n).checksPassed i = s.checksPassed i := by
  unfold State.checksPassed
  split <;> simp <;> rfl

/-- A running command that goes on stays sound: its checks still hold nothing (R312, R323). -/
theorem State.Sound.goOn {s u : State} {j : Job} {i : Instr} (h : s.Sound) (hp : s.phase = .run j)
    (hd : decode j.word = .ok i) (frame : BanksOnly s u) (hdata : DataSound u) (hchecked : u.checksPassed i = true)
    (w : Word) (n : Nat) : (u.stopAt w n).Sound := by
  obtain ⟨tbl, rfl⟩ : ∃ tbl, u = { s with tbl := tbl } := ⟨_, frame⟩
  have hphase : (State.stopAt { s with tbl := tbl } w n).phase = .run { j with seg := n } := by simp [State.stopAt, hp]
  have hjob := h.running j hp
  exact
    { config := hdata.config, registers := hdata.registers, banks := hdata.banks, vectors := hdata.vectors
      selector := hdata.selector, endings := h.endings, faultClear := h.faultClear, faultSet := h.faultSet
      running := fun k hk => by
        cases hphase.symm.trans hk
        exact
          { snap := hjob.snap, done := hjob.done, err := hjob.err, cancelled := hjob.cancelled
            checked := fun _ => ⟨i, hd, by rw [State.checksPassed_stopAt]; exact hchecked⟩ }
      initial := fun hi => by simp [hphase] at hi }

theorem State.Sound.commandStep {s t : State} {j : Job} {i : Instr} (h : s.Sound) (hp : s.phase = .run j)
    (hd : decode j.word = .ok i) (hstep : CommandStep i s t) : t.Sound := by
  cases hstep with
  | fault c named => exact h.data.sound_failWith _ named
  | cancel => exact h.data.sound_cancelEnd
  | finish u frame sound => exact (sound (h.ready hp hd)).sound_succeed
  | goOn u w n safePoints frame sound =>
    obtain ⟨hdata, hchecked⟩ := sound (h.ready hp hd)
    exact h.goOn hp hd frame hdata hchecked w n

theorem State.Sound.coreStep {s t : State} (h : s.Sound) (hstep : s.coreStep = .next t) : t.Sound := by
  rcases coreStep_cases hstep with ⟨-, rfl⟩ | ⟨-, rfl⟩ | ⟨j, hp, ⟨i, hd, hexec⟩ | rfl⟩
  · exact h.endInit
  · exact h
  · exact h.commandStep hp hd (commandStep_of_exec hexec)
  · exact h.data.sound_failWith _ (by decide)

/-! ### The host's accesses -/

theorem State.Sound.accept {s : State} (h : s.Sound) (w : Word) : (s.accept w).Sound where
  config := h.config
  registers := h.registers
  banks := h.banks
  vectors := h.vectors
  selector := h.selector
  endings := by simp
  faultClear := by simp
  faultSet := by simp
  running j hj := by
    cases hj
    exact { snap := rfl, done := rfl, err := rfl, cancelled := rfl, checked := fun hseg => absurd rfl hseg }
  initial hi := by simp at hi

theorem State.Sound.writeCtrl {s : State} (h : s.Sound) (w : Word) : (s.writeCtrl w).Sound := by
  unfold State.writeCtrl
  split
  · exact (sound_resetOf h.config).of_hostSideOnly ⟨rfl, id⟩
  · exact h.of_hostSideOnly ⟨rfl, fun hd => (Bool.and_eq_true_iff.mp hd).1⟩

/-- A WDATA write replaces a digit inside CAP, so the register still fits (R32, R80). -/
theorem fits_windowDigitWritten {s : State} (h : DataSound s) (w : Word) (hi : s.windowIndex < s.cfg.cap) :
    s.fits (s.windowDigitWritten w) = true := by
  have hreg := h.registers s.windowReg
  rw [State.fits_iff] at hreg ⊢
  have hlt := withDigit_lt hreg hi w.isLt
  unfold State.windowDigitWritten
  split
  · simpa using hlt
  · simpa using hlt

/-- A sign write keeps the magnitude (R32, R61). -/
theorem natAbs_windowSignWritten (s : State) (w : Word) :
    (s.windowSignWritten w).natAbs = s.b[s.windowReg].natAbs := by
  unfold State.windowSignWritten
  split <;> omega

section
variable {s : State}

theorem State.Sound.flagHostErr (h : s.Sound) : s.flagHostErr.Sound :=
  h.of_hostSideOnly (portOnly_flagHostErr s).hostSideOnly

theorem State.Sound.windowAdvance (h : s.Sound) : s.windowAdvance.Sound :=
  h.of_hostSideOnly (portOnly_refl s).windowAdvance.hostSideOnly

theorem State.Sound.setBig_of_idle (h : s.Sound) (hidle : s.phase = .idle) (r : BReg) {v : Int} (hv : s.fits v = true) :
    (s.setBig r v).Sound :=
  h.of_idle_write hidle (h.data.setBig r hv) rfl rfl rfl rfl rfl

theorem State.Sound.writeElement (h : s.Sound) (hidle : s.phase = .idle) (w : Word) : (s.writeElement w).Sound := by
  unfold State.writeElement
  split
  · next hin => exact h.setBig_of_idle hidle _ (fits_windowDigitWritten h.data w hin.2)
  · exact h.flagHostErr

theorem State.Sound.writeMeta (h : s.Sound) (hidle : s.phase = .idle) (w : Word) : (s.writeMeta w).Sound := by
  unfold State.writeMeta
  split
  · exact h.setBig_of_idle hidle _ (fits_of_natAbs_le (h.registers s.windowReg) (natAbs_windowSignWritten s w).le)
  · exact h.flagHostErr

/-- The reserved bits of WSEL are not stored (R58). -/
theorem State.Sound.writeWsel (h : s.Sound) (hidle : s.phase = .idle) (w : Word) :
    State.Sound { s with wsel := w &&& wselMask } :=
  h.of_idle_write hidle
    { config := h.config, registers := h.registers, banks := h.banks, vectors := h.vectors
      selector := by rw [BitVec.and_assoc, BitVec.and_self] }
    rfl rfl rfl rfl rfl

/-- A host write that acts keeps the invariant; only those of CTRL and INTEN act while the core is busy (R88). -/
theorem State.Sound.writeReg (h : s.Sound) (r : HostReg) (w : Word)
    (hacts : s.busy = false ∨ r.writesWhileBusy = true) : (s.writeReg w r).Sound := by
  have hidle : r.writesWhileBusy = false → s.phase = .idle := fun hr =>
    phase_eq_idle_of_not_busy (hacts.resolve_right (by simp [hr]))
  cases r with
  | ctrl => exact h.writeCtrl w
  | inten => exact h.of_hostSideOnly ⟨rfl, id⟩
  | cmd => exact h.accept w
  | arg0 => exact h.of_idle_write (hidle rfl) (h.data.of_eq rfl rfl rfl rfl rfl) rfl rfl rfl rfl rfl
  | arg1 => exact h.of_idle_write (hidle rfl) (h.data.of_eq rfl rfl rfl rfl rfl) rfl rfl rfl rfl rfl
  | wsel => exact h.writeWsel (hidle rfl) w
  | widx => exact h.of_hostSideOnly ⟨rfl, id⟩
  | wdata => exact (h.writeElement (hidle rfl) w).windowAdvance
  | wmeta => exact h.writeMeta (hidle rfl) w
  | id | param0 | param1 | cmdcount | status | fault | res0 | res1 => exact h.flagHostErr

theorem State.Sound.hostWrite (h : s.Sound) (addr size : Nat) (w : Word) : (s.hostWrite addr size w).Sound := by
  rcases hostWrite_cases s addr size w with hport | ⟨r, -, -, hacts, heq⟩
  · exact h.of_hostSideOnly hport.hostSideOnly
  · rw [heq]
    exact h.writeReg r w hacts

end

/-! ### Every step -/

/-- Settles O26, event by event: the core's turn by `CommandStep`, a read by its frame, a write by its register, RST by the
reset state. -/
theorem stepKeepsSound : Obligations.StepKeepsSound := by
  intro s t h hstep
  rcases step_cases hstep with ⟨rest, -, hcore⟩ | ⟨addr, size, rest, -, rfl⟩ | ⟨addr, size, w, rest, -, rfl⟩ | ⟨rest, -, rfl⟩
  · exact (h.withInputs rest).coreStep hcore
  · exact (h.withInputs rest).of_hostSideOnly (portOnly_hostRead _ addr size).hostSideOnly
  · exact (h.withInputs rest).hostWrite addr size w
  · exact (sound_resetOf h.config).of_hostSideOnly ⟨rfl, id⟩

/-- Settles O27. -/
theorem resetIsSound : Obligations.ResetIsSound :=
  ⟨fun _ hc => sound_resetOf hc, sound_resetOf (by decide)⟩

end Sys2Proof.Machine
end

section
/-! PROOFS. What a step leaves unchanged: the frames of the core's turn and of the host's accesses, one inversion of a step
from them, and the statements about counters, endings, operands and results that follow. -/

namespace Sys2Proof.Machine

/-! ### The core's turn -/

section
variable {i : Instr} {s t : State}

/-- No core step of a command changes what is the host's side (R46, R52, R315). -/
theorem CommandStep.hostSideKept (h : CommandStep i s t) : HostSideKept s t := by
  cases h with
  | fault c _ => exact s.hostSideKept_failWith _ c
  | cancel => exact s.cancelEnd_spec.host
  | finish u frame _ =>
    rw [frame]
    exact ⟨rfl, rfl, rfl, rfl, rfl, rfl, rfl, rfl, rfl, rfl⟩
  | goOn u w n _ frame _ =>
    rw [frame]
    exact ⟨rfl, rfl, rfl, rfl, rfl, rfl, rfl, rfl, rfl, rfl⟩

theorem phase_stopAt_ne_idle (s : State) (w : Word) (n : Nat) : (s.stopAt w n).phase ≠ .idle := by
  cases hp : s.phase <;> simp [State.stopAt, hp]

/-- A command that ends sets DONE (R317). -/
theorem CommandStep.done (h : CommandStep i s t) (hidle : t.phase = .idle) : t.done = true := by
  cases h with
  | fault | cancel | finish => rfl
  | goOn u w n => exact absurd hidle (phase_stopAt_ne_idle u w n)

/-- A command that goes on keeps its word, its snapshot and the registers. -/
theorem CommandStep.running {j k : Job} (h : CommandStep i s t) (hj : s.phase = .run j) (hk : t.phase = .run k) :
    t.b = s.b ∧ k.word = j.word ∧ k.snap = j.snap := by
  cases h with
  | fault | cancel | finish => simp at hk
  | goOn u w n _ frame _ =>
    rw [frame] at hk ⊢
    obtain rfl : { j with seg := n } = k := by simpa [State.stopAt, hj] using hk
    exact ⟨rfl, rfl, rfl⟩

/-- A core step of a command leaves at most one of ERR and CANCELLED set (R54, R317). -/
theorem CommandStep.oneEnding (h : CommandStep i s t) (hs : ¬(s.err = true ∧ s.cancelled = true)) :
    ¬(t.err = true ∧ t.cancelled = true) := by
  cases h with
  | fault | cancel | finish => simp
  | goOn u w n _ frame _ =>
    rw [frame]
    exact hs

theorem hostSideKept_coreStep (h : s.coreStep = .next t) : HostSideKept s t := by
  rcases coreStep_cases h with ⟨-, rfl⟩ | ⟨-, rfl⟩ | ⟨j, -, ⟨i, -, hexec⟩ | rfl⟩
  · exact ⟨rfl, rfl, rfl, rfl, rfl, rfl, rfl, rfl, rfl, rfl⟩
  · exact ⟨rfl, rfl, rfl, rfl, rfl, rfl, rfl, rfl, rfl, rfl⟩
  · exact (commandStep_of_exec hexec).hostSideKept
  · exact s.hostSideKept_failWith _ _

/-- A command runs after the core's turn only if the same command ran before it. -/
theorem running_of_coreStep {k : Job} (h : s.coreStep = .next t) (hk : t.phase = .run k) :
    ∃ j, s.phase = .run j ∧ t.b = s.b ∧ k.word = j.word ∧ k.snap = j.snap := by
  rcases coreStep_cases h with ⟨-, rfl⟩ | ⟨hidle, rfl⟩ | ⟨j, hj, ⟨i, -, hexec⟩ | rfl⟩
  · cases hk
  · cases hidle.symm.trans hk
  · exact ⟨j, hj, (commandStep_of_exec hexec).running hj hk⟩
  · cases hk

theorem oneEnding_of_coreStep (h : s.coreStep = .next t) (hs : ¬(s.err = true ∧ s.cancelled = true)) :
    ¬(t.err = true ∧ t.cancelled = true) := by
  rcases coreStep_cases h with ⟨-, rfl⟩ | ⟨-, rfl⟩ | ⟨j, -, ⟨i, -, hexec⟩ | rfl⟩
  · exact hs
  · exact hs
  · exact (commandStep_of_exec hexec).oneEnding hs
  · simp [State.illegalEnd]

end

/-! ### The host's accesses -/

/-- `t` is `s` after a host access that is neither an accept nor a reset: of the machine's state only the host-side
registers, big registers and scalar operands, CANCEL_PENDING, DONE and HOSTERR may differ, and while the core is busy
the operands do not. -/
structure Accessed (s t : State) : Prop where
  frame : t = { s with
    b := t.b, arg0 := t.arg0, arg1 := t.arg1, done := t.done, hostErr := t.hostErr, cancelPending := t.cancelPending
    intEn := t.intEn, wsel := t.wsel, widx := t.widx, readData := t.readData }
  operands : s.busy = true → t.b = s.b ∧ t.arg0 = s.arg0 ∧ t.arg1 = s.arg1

section
variable {s t : State}

theorem PortOnly.accessed (h : PortOnly s t) : Accessed s t := by
  obtain ⟨_, _, _, rfl⟩ := h
  exact ⟨rfl, fun _ => ⟨rfl, rfl, rfl⟩⟩

theorem accessed_writeCtrl {w : Word} (h : w.getLsbD 31 = false) : Accessed s (s.writeCtrl w) := by
  unfold State.writeCtrl
  rw [if_neg (Bool.eq_false_iff.mp h)]
  exact ⟨rfl, fun _ => ⟨rfl, rfl, rfl⟩⟩

theorem Accessed.of_idle (hidle : s.busy = false) (frame : t = { s with
      b := t.b, arg0 := t.arg0, arg1 := t.arg1, done := t.done, hostErr := t.hostErr, cancelPending := t.cancelPending
      intEn := t.intEn, wsel := t.wsel, widx := t.widx, readData := t.readData }) : Accessed s t :=
  ⟨frame, fun hb => by simp [hidle] at hb⟩

theorem Accessed.windowAdvance (h : Accessed s t) : Accessed s t.windowAdvance := by
  unfold State.windowAdvance
  split
  · exact
      { frame := by conv_lhs => rw [h.frame]
        operands := h.operands }
  · exact h

theorem accessed_writeElement (hidle : s.busy = false) (w : Word) : Accessed s (s.writeElement w) := by
  unfold State.writeElement
  split <;> exact .of_idle hidle rfl

theorem accessed_writeMeta (hidle : s.busy = false) (w : Word) : Accessed s (s.writeMeta w) := by
  unfold State.writeMeta
  split <;> exact .of_idle hidle rfl

/-- The writes that act, but for an accept and a soft reset, are within `Accessed`. -/
theorem accessed_writeReg {r : HostReg} {w : Word} (hacts : s.busy = false ∨ r.writesWhileBusy = true)
    (hcmd : r ≠ .cmd) (hreset : ¬(r = .ctrl ∧ w.getLsbD 31 = true)) : Accessed s (s.writeReg w r) := by
  have hidle : r.writesWhileBusy = false → s.busy = false := fun hr => hacts.resolve_right (by simp [hr])
  have hflag : Accessed s s.flagHostErr := (portOnly_flagHostErr s).accessed
  cases r with
  | cmd => exact absurd rfl hcmd
  | ctrl => exact accessed_writeCtrl (by simpa using hreset)
  | inten => exact ⟨rfl, fun _ => ⟨rfl, rfl, rfl⟩⟩
  | arg0 => exact .of_idle (hidle rfl) rfl
  | arg1 => exact .of_idle (hidle rfl) rfl
  | wsel => exact .of_idle (hidle rfl) rfl
  | widx => exact .of_idle (hidle rfl) rfl
  | wdata => exact (accessed_writeElement (hidle rfl) w).windowAdvance
  | wmeta => exact accessed_writeMeta (hidle rfl) w
  | id | param0 | param1 | cmdcount | status | fault | res0 | res1 => exact hflag

end

/-! ### One inversion of a step -/

/-- RST, or a CTRL write with SRESET set, is the next event (R350, R351). -/
def ResetsNext (s : State) : Prop :=
  (∃ rest, s.inputs = .rst :: rest) ∨ ∃ w rest, WritesNext s 0x01C w rest ∧ w.getLsbD 31 = true

/-- A CMD write to an idle core is the next event (R316). -/
def AcceptsNext (s : State) : Prop := ∃ w rest, WritesNext s 0x010 w rest ∧ s.busy = false

/-- What a step is: the core's turn, an accept, a reset, or an access within `Accessed`. -/
theorem step_effects {s t : State} (h : step s = .next t) :
    (∃ rest, (s.inputs = [] ∨ s.inputs = .core :: rest) ∧ State.coreStep { s with inputs := rest } = .next t) ∨
      (AcceptsNext s ∧ ∃ w rest, t = State.accept { s with inputs := rest } w) ∨
      (ResetsNext s ∧ ∃ rest, t = State.applyReset { s with inputs := rest }) ∨
      (¬AcceptsNext s ∧ ∃ rest, Accessed { s with inputs := rest } t) := by
  by_cases haccept : AcceptsNext s
  · obtain ⟨w, rest, hw, hidle⟩ := haccept
    have ht := h.symm.trans (step_write .cmd hw (.inl hidle))
    exact .inr (.inl ⟨⟨w, rest, hw, hidle⟩, w, rest, Host.Outcome.next.inj ht⟩)
  · rcases step_cases h with hcore | ⟨addr, size, rest, -, rfl⟩ | ⟨addr, size, w, rest, hin, rfl⟩ | ⟨rest, hin, rfl⟩
    · exact .inl hcore
    · exact .inr (.inr (.inr ⟨haccept, rest, (portOnly_hostRead _ addr size).accessed⟩))
    · rcases hostWrite_cases { s with inputs := rest } addr size w with hport | ⟨r, rfl, rfl, hacts, heq⟩
      · exact .inr (.inr (.inr ⟨haccept, rest, hport.accessed⟩))
      · rw [heq]
        by_cases hreset : r = .ctrl ∧ w.getLsbD 31 = true
        · obtain ⟨rfl, hsreset⟩ := hreset
          refine .inr (.inr (.inl ⟨.inr ⟨w, rest, hin, hsreset⟩, rest, ?_⟩))
          simp only [State.writeReg, State.writeCtrl, hsreset, if_true]
        · have hcmd : r ≠ .cmd := by
            rintro rfl
            exact haccept ⟨w, rest, hin, hacts.resolve_right (by decide)⟩
          exact .inr (.inr (.inr ⟨haccept, rest, accessed_writeReg hacts hcmd hreset⟩))
    · exact .inr (.inr (.inl ⟨.inl ⟨rest, hin⟩, rest, rfl⟩))

/-! ### The statements -/

/-- No step changes the parameters (R7). -/
theorem cfg_of_step {s t : State} (h : step s = .next t) : t.cfg = s.cfg := by
  rcases step_effects h with ⟨rest, -, hcore⟩ | ⟨-, w, rest, rfl⟩ | ⟨-, rest, rfl⟩ | ⟨-, rest, hacc⟩
  · exact (hostSideKept_coreStep hcore).cfg
  · rfl
  · rfl
  · rw [hacc.frame]

/-- Settles O58: trial division and Bertrand's postulate give the primes, and a step keeps the parameters. -/
theorem romHoldsThePrimes : Obligations.RomHoldsThePrimes :=
  ⟨fun c => ⟨length_rom c, fun _ hi => primeAt_eq_nth c hi⟩, fun _ _ h => congrArg Config.rom (cfg_of_step h)⟩

/-- Settles O24. -/
theorem cmdcountCountsAccepts : Obligations.CmdcountCountsAccepts := by
  intro s t h
  refine ⟨cfg_of_step h, ?_⟩
  by_cases haccept : AcceptsNext s
  · obtain ⟨w, rest, hw, hidle⟩ := haccept
    obtain rfl := Host.Outcome.next.inj (h.symm.trans (step_write .cmd hw (.inl hidle)))
    exact .inl ⟨w, rest, hw, hidle, BitVec.toNat_add _ _⟩
  · rcases step_effects h with ⟨rest, -, hcore⟩ | ⟨haccept', -⟩ | ⟨hreset, rest, rfl⟩ | ⟨-, rest, hacc⟩
    · exact .inr (.inr ⟨haccept, (hostSideKept_coreStep hcore).cmdCount⟩)
    · exact absurd haccept' haccept
    · exact .inr (.inl ⟨hreset, rfl⟩)
    · exact .inr (.inr ⟨haccept, by rw [hacc.frame]⟩)

/-- Settles O23: a read or a write is an accept or within `Accessed`, since a reset by a write is a soft reset. -/
theorem hostAccessesKeepResults : Obligations.HostAccessesKeepResults := by
  intro s t addr size w rest h hin
  rcases step_effects h with ⟨rest', hcore, -⟩ | ⟨-, w', rest', rfl⟩ | ⟨hreset, -⟩ | ⟨-, rest', hacc⟩
  · rcases hin with hin | ⟨hin, -⟩ <;> simp [hin] at hcore
  · exact ⟨rfl, rfl, rfl, rfl, rfl, rfl⟩
  · exfalso
    rcases hin with hin | ⟨hin, hnot⟩
    · simp [ResetsNext, WritesNext, hin] at hreset
    · rcases hreset with ⟨rest', hrst⟩ | ⟨w', rest', hw, hbit⟩
      · simp [hin] at hrst
      · obtain ⟨⟨rfl, rfl, rfl⟩, -⟩ : (addr = s.cfg.coreBase + 0x01C ∧ size = 4 ∧ w = w') ∧ rest = rest' := by
          simpa [WritesNext, hin] using hw
        exact hnot ⟨rfl, rfl, hbit⟩
  · rw [hacc.frame]
    exact ⟨rfl, rfl, rfl, rfl, rfl, rfl⟩

/-- Settles O29. -/
theorem stepKeepsOneEnding : Obligations.StepKeepsOneEnding := by
  intro s t hs h
  rcases step_effects h with ⟨rest, -, hcore⟩ | ⟨-, w, rest, rfl⟩ | ⟨-, rest, rfl⟩ | ⟨-, rest, hacc⟩
  · exact oneEnding_of_coreStep hcore hs
  · simp
  · simp [State.applyReset, State.resetOf]
  · rw [hacc.frame]
    exact hs

/-- A command that runs after a step ran before it, with the same operands, or has just been accepted. -/
theorem running_of_step {s t : State} {k : Job} (h : step s = .next t) (hk : t.phase = .run k) :
    (∃ j, s.phase = .run j ∧ t.b = s.b ∧ t.arg0 = s.arg0 ∧ t.arg1 = s.arg1 ∧ k.word = j.word ∧ k.snap = j.snap) ∨
      (s.phase = .idle ∧ k.snap = t.b) := by
  rcases step_effects h with ⟨rest, -, hcore⟩ | ⟨⟨-, -, -, hidle⟩, w, rest, rfl⟩ | ⟨-, rest, rfl⟩ | ⟨-, rest, hacc⟩
  · obtain ⟨j, hj, hb, hword, hsnap⟩ := running_of_coreStep hcore hk
    have hside := hostSideKept_coreStep hcore
    exact .inl ⟨j, hj, hb, hside.arg0, hside.arg1, hword, hsnap⟩
  · cases hk
    exact .inr ⟨phase_eq_idle_of_not_busy hidle, rfl⟩
  · cases hk
  · have hphase : s.phase = .run k := by
      rw [hacc.frame] at hk
      exact hk
    obtain ⟨hb, harg0, harg1⟩ := hacc.operands (by simp [State.busy, hphase])
    exact .inl ⟨k, hphase, hb, harg0, harg1, rfl, rfl⟩

/-- Settles O28. -/
theorem stepKeepsOperands : Obligations.StepKeepsOperands := by
  refine ⟨fun s j r hj => State.opBig_run s hj r, fun s t h => ⟨fun hsnap k hk => ?_, fun j k hj hk => ?_⟩⟩
  · rcases running_of_step h hk with ⟨j, hj, hb, -, -, -, hkept⟩ | ⟨-, hnew⟩
    · rw [hkept, hb, hsnap j hj]
    · exact hnew
  · rcases running_of_step h hk with ⟨j', hj', hkept⟩ | ⟨hidle, -⟩
    · cases hj.symm.trans hj'
      exact hkept
    · cases hj.symm.trans hidle

/-- A CTRL write with ACK leaves IRQ 0: it clears DONE, and if it resets, IE as well (R53, R65). -/
theorem irq_writeCtrl_ack {s : State} {w : Word} (h : w.getLsbD 2 = true) : (s.writeCtrl w).irq = false := by
  unfold State.writeCtrl
  split
  · simp [State.irq, State.applyReset, State.resetOf]
  · simp [State.irq, h]

/-- Settles O16. -/
theorem interruptFollowsCompletion : Obligations.InterruptFollowsCompletion := by
  refine ⟨fun s => rfl, fun i s t j _ hexec hidle => ?_, fun s t w rest h hcase => ?_⟩
  · have hstep := commandStep_of_exec hexec
    rw [State.irq, hstep.hostSideKept.intEn, hstep.done hidle, Bool.and_true]
  · rcases hcase with ⟨hw, hack⟩ | ⟨hw, hidle⟩
    · obtain rfl := Host.Outcome.next.inj (h.symm.trans (step_write .ctrl hw (.inr rfl)))
      exact irq_writeCtrl_ack hack
    · obtain rfl := Host.Outcome.next.inj (h.symm.trans (step_write .cmd hw (.inl hidle)))
      exact Bool.and_false _

end Sys2Proof.Machine
end

section
/-! PROOFS. What the host reads and writes, register by register: the bad accesses (R62, R73), the constants (R48, R49), the
plain registers (R50-R52, R56-R59), CTRL (R53), STATUS and FAULT (R54, R55), and WMETA (R61). -/

namespace Sys2Proof.Machine

/-! ### Words as lists of bits -/

/-- The number whose bits, from bit 0 up, are the list's. -/
def ofBits : List Bool → Nat
  | [] => 0
  | p :: ps => bit p + 2 * ofBits ps

theorem testBit_ofBits (ps : List Bool) (n : Nat) : (ofBits ps).testBit n = ps.getD n false := by
  induction ps generalizing n with
  | nil => simp [ofBits]
  | cons p ps ih =>
    have hlow : bit p < 2 := by cases p <;> decide
    cases n with
    | zero =>
      rw [ofBits, Nat.testBit_zero, Nat.add_mul_mod_self_left]
      cases p <;> rfl
    | succ n =>
      rw [ofBits, Nat.testBit_succ, Nat.add_mul_div_left _ _ (by decide), Nat.div_eq_of_lt hlow, Nat.zero_add, ih]
      rfl

/-! ### Bad accesses -/

/-- Settles O11. -/
theorem badAccessesOnlySetHosterr : Obligations.BadAccessesOnlySetHosterr := by
  intro s off size w rest hoff hbad
  refine ⟨fun h => ?_, fun h => ?_⟩
  · rw [step_of_read h]
    exact congrArg _ (hostRead_bad { s with inputs := rest } hoff hbad)
  · rw [step_of_write h]
    exact congrArg _ (hostWrite_bad { s with inputs := rest } w hoff hbad)

/-! ### The constants and the plain registers -/

/-- The fields of PARAM0 (R49). -/
theorem param0_fields {c : Config} (hc : c.Valid) :
    (Config.param0 c).toNat % 2 ^ 16 = c.cap ∧ (Config.param0 c).toNat / 2 ^ 16 % 2 ^ 8 = 16 ∧
      (Config.param0 c).toNat / 2 ^ 24 % 2 ^ 4 = 4 ∧ (Config.param0 c).toNat / 2 ^ 28 = 2 := by
  obtain ⟨-, hcap, -⟩ := hc
  rw [Config.param0, BitVec.toNat_ofNat]
  omega

/-- The fields of PARAM1 (R49). -/
theorem param1_fields {c : Config} (hc : c.Valid) :
    (Config.param1 c).toNat % 2 ^ 16 = c.primeCount ∧ (Config.param1 c).toNat / 2 ^ 16 = 2 * c.cap := by
  obtain ⟨-, hcap, -, hprimes, -⟩ := hc
  rw [Config.param1, Config.slots, BitVec.toNat_ofNat]
  omega

/-- Settles O10. -/
theorem idAndParamRegisters : Obligations.IdAndParamRegisters := by
  intro s w rest hc
  refine ⟨fun h => step_read .id h (.inr rfl), fun h => ?_, fun h => ?_, ?_⟩
  · exact ⟨_, step_read .param0 h (.inr rfl), param0_fields hc⟩
  · exact ⟨_, step_read .param1 h (.inr rfl), param1_fields hc⟩
  · rintro (h | h | h)
    · exact step_write_readOnly .id h fun _ => rfl
    · exact step_write_readOnly .param0 h fun _ => rfl
    · exact step_write_readOnly .param1 h fun _ => rfl

/-- WSEL stores every bit but 7:4 and 15:12 (R58). -/
theorem getLsbD_wselMask {n : Nat} (hn : n < 32) :
    wselMask.getLsbD n = !decide ((4 ≤ n ∧ n ≤ 7) ∨ (12 ≤ n ∧ n ≤ 15)) := by
  revert n
  decide

theorem getLsbD_and_wselMask (w : Word) (n : Nat) :
    (w &&& wselMask).getLsbD n = (w.getLsbD n && !decide ((4 ≤ n ∧ n ≤ 7) ∨ (12 ≤ n ∧ n ≤ 15))) := by
  rw [BitVec.getLsbD_and]
  by_cases hn : n < 32
  · rw [getLsbD_wselMask hn]
  · rw [BitVec.getLsbD_of_ge w n (by omega), Bool.false_and, Bool.false_and]

/-- INTEN reads IE in bit 0 and 0 above (R57). -/
theorem getLsbD_intEnWord (p : Bool) (n : Nat) : (BitVec.ofNat 32 (bit p)).getLsbD n = (p && decide (n = 0)) := by
  have hbits : bit p = ofBits [p] := rfl
  rw [BitVec.getLsbD_ofNat, hbits, testBit_ofBits]
  cases n <;> simp

/-- Settles O22. -/
theorem plainHostRegisters : Obligations.PlainHostRegisters := by
  intro s w rest
  refine ⟨fun hidle => ⟨?_, ?_, ?_, ?_, ?_, ?_, ?_, ?_, ?_, ?_, ?_, ?_⟩, ?_, ?_, ?_, ?_⟩
  · exact fun h => step_read .cmd h (.inl hidle)
  · exact fun h => step_read .arg0 h (.inl hidle)
  · exact fun h => step_read .arg1 h (.inl hidle)
  · exact fun h => step_read .res0 h (.inl hidle)
  · exact fun h => step_read .res1 h (.inl hidle)
  · exact fun h => step_read .wsel h (.inl hidle)
  · exact fun h => step_read .widx h (.inl hidle)
  · exact fun h => step_write .arg0 h (.inl hidle)
  · exact fun h => step_write .arg1 h (.inl hidle)
  · rintro (h | h)
    · exact step_write_readOnly .res0 h fun _ => rfl
    · exact step_write_readOnly .res1 h fun _ => rfl
  · exact fun h => ⟨_, step_write .wsel h (.inl hidle), getLsbD_and_wselMask w⟩
  · exact fun h => step_write .widx h (.inl hidle)
  · exact fun h => step_read .cmdcount h (.inr rfl)
  · exact fun h => step_write_readOnly .cmdcount h fun _ => rfl
  · refine fun h => ⟨_, step_read .inten h (.inr rfl), ?_, fun n hn => ?_⟩
    · exact (getLsbD_intEnWord _ 0).trans (by simp)
    · exact (getLsbD_intEnWord _ n).trans (by simp [show n ≠ 0 by omega])
  · exact fun h => step_write .inten h (.inr rfl)

/-! ### CTRL -/

/-- Settles O12. -/
theorem ctrlWritesAct : Obligations.CtrlWritesAct := by
  intro s w rest
  refine ⟨fun h hbit => ?_, fun h hbit => ?_, fun h => ?_⟩
  · have hstep := step_write .ctrl h (.inr rfl)
    rw [State.writeReg, State.writeCtrl, if_neg (Bool.eq_false_iff.mp hbit)] at hstep
    exact ⟨_, hstep, rfl, by simp, by simp, by simp⟩
  · rw [step_write .ctrl h (.inr rfl), step_of_rst (s := { s with inputs := .rst :: rest }) rfl, State.writeReg,
      State.writeCtrl, if_pos hbit]
  · refine ⟨_, (step_of_read h).trans (congrArg _ (hostRead_offset { s with inputs := rest } .ctrl)), ?_⟩
    split <;> rfl

/-! ### STATUS and FAULT -/

/-- The bits of STATUS in order (R54, R45). -/
def State.statusBits (s : State) : List Bool :=
  [s.busy, s.done, s.err, s.cancelled, s.hostErr, s.cancelPending, s.initialising] ++ List.replicate 9 false ++
    [s.flags.z, s.flags.n, s.flags.one, s.flags.f64, s.flags.eq, s.flags.gt, s.flags.prime, s.flags.found,
      s.flags.exact]

theorem statusWord_eq_ofBits (s : State) : s.statusWord = BitVec.ofNat 32 (ofBits s.statusBits) := by
  have hfalse : bit false = 0 := rfl
  refine congrArg (BitVec.ofNat 32) ?_
  simp only [State.statusBits, Flags.field, List.replicate, List.cons_append, List.nil_append, ofBits, hfalse]
  omega

/-- Every bit of STATUS, those past the list being 0. -/
theorem getLsbD_statusWord (s : State) (n : Nat) : s.statusWord.getLsbD n = s.statusBits.getD n false := by
  rw [statusWord_eq_ofBits, BitVec.getLsbD_ofNat, testBit_ofBits]
  by_cases hn : n < 32
  · simp [hn]
  · have hlength : s.statusBits.length ≤ n := by simp [State.statusBits]; omega
    rw [List.getD_eq_default _ _ hlength]
    simp [hn]

/-- STATUS holds 0 between INIT and the flags and above them. -/
theorem getLsbD_statusWord_reserved (s : State) {n : Nat} (hn : (7 ≤ n ∧ n ≤ 15) ∨ 25 ≤ n) :
    s.statusWord.getLsbD n = false := by
  rw [getLsbD_statusWord]
  rcases hn with ⟨hlow, hhigh⟩ | habove
  · interval_cases n <;> rfl
  · exact List.getD_eq_default _ _ (by simpa [State.statusBits] using habove)

theorem FaultCode.number_lt (c : FaultCode) : c.number < 2 ^ 8 := by cases c <;> decide

theorem toNat_faultWord (s : State) : s.faultWord.toNat = s.faultCode.number + 2 ^ 8 * s.faultOpc.toNat := by
  have hcode := s.faultCode.number_lt
  have hopc := s.faultOpc.isLt
  rw [State.faultWord, BitVec.toNat_ofNat]
  omega

theorem faultWord_fields (s : State) :
    s.faultWord.toNat % 2 ^ 8 = s.faultCode.number ∧ s.faultWord.toNat / 2 ^ 8 = s.faultOpc.toNat := by
  have hcode := s.faultCode.number_lt
  rw [toNat_faultWord]
  omega

/-- Settles O15. -/
theorem statusAndFaultWords : Obligations.StatusAndFaultWords := by
  intro s w rest
  have hbit := getLsbD_statusWord s
  obtain ⟨hcode, hopc⟩ := faultWord_fields s
  refine ⟨⟨hbit 0, hbit 1, hbit 2, hbit 3, hbit 4, hbit 5, hbit 6⟩,
    ⟨hbit 16, hbit 17, hbit 18, hbit 19, hbit 20, hbit 21, hbit 22, hbit 23, hbit 24⟩,
    fun n hn => getLsbD_statusWord_reserved s hn, ?_, hopc, ?_, ?_, ?_⟩
  · rw [hcode]
    cases s.faultCode <;> rfl
  · exact fun h => step_read .status h (.inr rfl)
  · exact fun h => step_read .fault h (.inr rfl)
  · rintro (h | h)
    · exact step_write_readOnly .status h fun _ => rfl
    · exact step_write_readOnly .fault h fun _ => rfl

/-! ### WMETA -/

section
variable {s : State}

theorem bankField_eq_some {r : Fin 16} {k : BankNo} (h : k.val = r.val) : bankField r = some k := by
  have hr : r.val < 2 := h ▸ k.isLt
  rw [bankField, dif_pos hr]
  exact congrArg some (Fin.ext h.symm)

theorem bankField_eq_none {r : Fin 16} (h : 2 ≤ r.val) : bankField r = none := dif_neg (by omega)

theorem vectorField_eq_none {r : Fin 16} (h : 4 ≤ r.val) : vectorField r = none := dif_neg (by omega)

theorem two_pow_mul_bit (n : Nat) (p : Prop) [Decidable p] : 2 ^ n * bit (decide p) = if p then 2 ^ n else 0 := by
  by_cases hp : p <;> simp [bit, hp]

theorem windowMeta_register (h : s.space = 0) : s.windowMeta =
    some ((if s.b[s.windowReg] < 0 then 2 ^ 31 else 0) + (ndig s.b[s.windowReg].natAbs - 1)) := by
  rw [State.windowMeta, h, ← two_pow_mul_bit]
  rfl

theorem windowMeta_tableLength {k : BankNo} (hk : k.val = s.windowReg.val) (h : s.space = 1) :
    s.windowMeta = some ((if s.tbl[k].valid = true then 2 ^ 31 else 0) + s.tbl[k].len) := by
  rw [State.windowMeta, h, bankField_eq_some hk, ← two_pow_mul_bit, Bool.decide_eq_true]
  rfl

theorem windowMeta_modulusLength {k : BankNo} (hk : k.val = s.windowReg.val) (h : s.space = 2) :
    s.windowMeta = some ((if s.tbl[k].valid = true then 2 ^ 31 else 0) + s.tbl[k].k) := by
  rw [State.windowMeta, h, bankField_eq_some hk, ← two_pow_mul_bit, Bool.decide_eq_true]
  rfl

theorem windowMeta_vector (hr : s.windowReg.val < 4) (h : s.space = 3) : s.windowMeta = some (2 * s.cfg.cap) := by
  rw [State.windowMeta, h, vectorField, dif_pos hr]
  rfl

theorem windowMeta_rom (h : s.space = 4) : s.windowMeta = some s.cfg.primeCount := by
  rw [State.windowMeta, h]
  rfl

/-- The reserved spaces, and the register numbers that name no bank or no vector, have no metadata (R61, R85). -/
theorem windowMeta_eq_none (h : 5 ≤ s.space ∨ ((s.space = 1 ∨ s.space = 2) ∧ 2 ≤ s.windowReg.val) ∨
    (s.space = 3 ∧ 4 ≤ s.windowReg.val)) : s.windowMeta = none := by
  rcases h with h | ⟨h | h, hr⟩ | ⟨h, hr⟩
  · unfold State.windowMeta
    split
    case h_6 => rfl
    all_goals omega
  · rw [State.windowMeta, h, bankField_eq_none hr]
    rfl
  · rw [State.windowMeta, h, bankField_eq_none hr]
    rfl
  · rw [State.windowMeta, h, vectorField_eq_none hr]
    rfl

/-- A sign write makes the value negative exactly when bit 31 is set and it is not zero (R32, R61). -/
theorem windowSignWritten_neg_iff (s : State) (w : Word) :
    s.windowSignWritten w < 0 ↔ w.getLsbD 31 = true ∧ s.b[s.windowReg] ≠ 0 := by
  unfold State.windowSignWritten
  split
  · next hbit =>
    simp only [hbit, true_and]
    omega
  · next hbit =>
    constructor
    · intro hneg
      omega
    · exact fun h => absurd h.1 hbit

theorem writeMeta_register (h : s.space = 0) (w : Word) :
    s.writeMeta w = s.setBig s.windowReg (s.windowSignWritten w) := if_pos h

theorem writeMeta_other (h : s.space ≠ 0) (w : Word) : s.writeMeta w = s.flagHostErr := if_neg h

/-- An idle core answers a WMETA read with the metadata (R61). -/
theorem step_read_wmeta {rest : List Input} {v : Nat} (hidle : s.phase = .idle) (h : ReadsNext s 0x04C rest)
    (hv : s.windowMeta = some v) : step s = .next (readAnswered s rest (BitVec.ofNat 32 v)) := by
  have hmeta : State.windowMeta { s with inputs := rest } = some v := hv
  rw [step_read .wmeta h (.inl (not_busy_of_idle hidle)), State.readReg, hmeta]
  rfl

/-- An idle core answers 0 with HOSTERR where there is no metadata (R61, R85). -/
theorem step_read_wmeta_none {rest : List Input} (hidle : s.phase = .idle) (h : ReadsNext s 0x04C rest)
    (hnone : s.windowMeta = none) : step s = .next (readRefused s rest) := by
  have hmeta : State.windowMeta { s with inputs := rest } = none := hnone
  rw [step_read .wmeta h (.inl (not_busy_of_idle hidle)), State.readReg, hmeta]
  rfl

end

/-- Settles O18. -/
theorem windowMetadata : Obligations.WindowMetadata := by
  intro s r w rest hidle hr
  obtain rfl : r = s.windowReg := Fin.ext hr
  refine ⟨fun h => ⟨?_, ?_, ?_, ?_, ?_, ?_⟩, fun h => ?_⟩
  · exact fun hspace => step_read_wmeta hidle h (windowMeta_register hspace)
  · exact fun k hk hspace => step_read_wmeta hidle h (windowMeta_tableLength hk hspace)
  · exact fun k hk hspace => step_read_wmeta hidle h (windowMeta_modulusLength hk hspace)
  · exact fun hreg hspace => step_read_wmeta hidle h (windowMeta_vector hreg hspace)
  · exact fun hspace => step_read_wmeta hidle h (windowMeta_rom hspace)
  · exact fun hmiss => step_read_wmeta_none hidle h (windowMeta_eq_none hmiss)
  · have hstep := step_write .wmeta h (.inl (not_busy_of_idle hidle))
    refine ⟨fun hspace => ?_, fun hspace => ?_⟩
    · have hwrite := writeMeta_register (s := { s with inputs := rest }) hspace w
      exact ⟨_, hstep.trans (congrArg _ hwrite), natAbs_windowSignWritten s w, windowSignWritten_neg_iff s w⟩
    · exact hstep.trans (congrArg _ (writeMeta_other (s := { s with inputs := rest }) hspace w))

end Sys2Proof.Machine
end

section
/-! PROOFS. The accesses of a busy core (R88), and the window's elements: what a WDATA access reads, writes and misses, and
how it moves WIDX (R80-R86). -/

namespace Sys2Proof.Machine

/-! ### Accesses of a busy core -/

/-- Every offset R47 lists is a register's. -/
theorem exists_offset_of_mem {off : Nat} (h : off ∈ hostOffsets) : ∃ r : HostReg, off = r.offset := by
  have hsome : ∀ o ∈ hostOffsets, (regAt o).isSome = true := by decide
  obtain ⟨r, hr⟩ := Option.isSome_iff_exists.mp (hsome off h)
  exact ⟨r, eq_offset_of_regAt hr⟩

/-- The offsets of the reads that act while BUSY = 1 (R88). -/
def busyReadOffsets : List Nat := [0x000, 0x004, 0x008, 0x00C, 0x020, 0x024, 0x030]

/-- The offsets of the writes that act while BUSY = 1 (R88). -/
def busyWriteOffsets : List Nat := [0x01C, 0x030]

theorem readsWhileBusy_iff (r : HostReg) : r.readsWhileBusy = true ↔ r.offset ∈ busyReadOffsets := by
  cases r <;> decide

theorem writesWhileBusy_iff (r : HostReg) : r.writesWhileBusy = true ↔ r.offset ∈ busyWriteOffsets := by
  cases r <;> decide

theorem busyReadOffsets_subset {off : Nat} (h : off ∈ busyReadOffsets) : off ∈ hostOffsets := by
  have hsubset : ∀ o ∈ busyReadOffsets, o ∈ hostOffsets := by decide
  exact hsubset off h

theorem busyWriteOffsets_subset {off : Nat} (h : off ∈ busyWriteOffsets) : off ∈ hostOffsets := by
  have hsubset : ∀ o ∈ busyWriteOffsets, o ∈ hostOffsets := by decide
  exact hsubset off h

/-- A read that acts while BUSY = 1 changes the read-data lines only. -/
theorem readReg_eq_answer (s : State) {r : HostReg} (hr : r.readsWhileBusy = true) :
    ∃ v, s.readReg r = s.answer v := by
  cases r with
  | wdata | wmeta => cases hr
  | _ => exact ⟨_, rfl⟩

/-- A CTRL write sets no HOSTERR (R53). -/
theorem hostErr_writeCtrl {s : State} (h : s.hostErr = false) (w : Word) : (s.writeCtrl w).hostErr = false := by
  unfold State.writeCtrl
  split
  · rfl
  · simp [h]

/-- A write that acts while BUSY = 1 sets no HOSTERR. -/
theorem hostErr_writeReg {s : State} {r : HostReg} (hr : r.writesWhileBusy = true) (h : s.hostErr = false) (w : Word) :
    (s.writeReg w r).hostErr = false := by
  cases r with
  | ctrl => exact hostErr_writeCtrl h w
  | inten => exact h
  | _ => cases hr

section
variable {s : State} {off : Nat} {rest : List Input}

theorem step_read_busy_acts (hoff : off ∈ busyReadOffsets) (h : ReadsNext s off rest) :
    ∃ v, step s = .next (readAnswered s rest v) := by
  obtain ⟨r, rfl⟩ := exists_offset_of_mem (busyReadOffsets_subset hoff)
  have hacts := (readsWhileBusy_iff r).mpr hoff
  obtain ⟨v, hv⟩ := readReg_eq_answer { s with inputs := rest } hacts
  exact ⟨v, (step_read r h (.inr hacts)).trans (congrArg _ hv)⟩

theorem step_read_busy_refused (hbusy : s.busy = true) (hlt : off < 4096) (hoff : off ∉ busyReadOffsets)
    (h : ReadsNext s off rest) : step s = .next (readRefused s rest) := by
  rw [step_of_read h]
  refine congrArg _ ?_
  by_cases hmem : off ∈ hostOffsets
  · obtain ⟨r, rfl⟩ := exists_offset_of_mem hmem
    have hrefused : r.readsWhileBusy = false := Bool.eq_false_iff.mpr (mt (readsWhileBusy_iff r).mp hoff)
    have hport : State.busy { s with inputs := rest } = true := hbusy
    exact (hostRead_offset { s with inputs := rest } r).trans (if_pos (by simp [hport, hrefused]))
  · exact hostRead_bad { s with inputs := rest } hlt (.inr (.inr hmem))

theorem step_write_busy_acts {w : Word} (hoff : off ∈ busyWriteOffsets) (h : WritesNext s off w rest) :
    ∃ t, step s = .next t ∧ (s.hostErr = false → t.hostErr = false) := by
  obtain ⟨r, rfl⟩ := exists_offset_of_mem (busyWriteOffsets_subset hoff)
  have hacts := (writesWhileBusy_iff r).mpr hoff
  exact ⟨_, step_write r h (.inr hacts), fun hclear => hostErr_writeReg (s := { s with inputs := rest }) hacts hclear w⟩

theorem step_write_busy_refused {w : Word} (hbusy : s.busy = true) (hlt : off < 4096) (hoff : off ∉ busyWriteOffsets)
    (h : WritesNext s off w rest) : step s = .next (writeRefused s rest) := by
  rw [step_of_write h]
  refine congrArg _ ?_
  by_cases hmem : off ∈ hostOffsets
  · obtain ⟨r, rfl⟩ := exists_offset_of_mem hmem
    have hrefused : r.writesWhileBusy = false := Bool.eq_false_iff.mpr (mt (writesWhileBusy_iff r).mp hoff)
    have hport : State.busy { s with inputs := rest } = true := hbusy
    exact (hostWrite_offset { s with inputs := rest } r w).trans (if_pos (by simp [hport, hrefused]))
  · exact hostWrite_bad { s with inputs := rest } w hlt (.inr (.inr hmem))

end

/-- Settles O9. -/
theorem busyRefusesOtherAccesses : Obligations.BusyRefusesOtherAccesses := fun _ _ _ _ hbusy hlt _ =>
  ⟨fun h => ⟨fun hoff => step_read_busy_acts hoff h, fun hoff => step_read_busy_refused hbusy hlt hoff h⟩,
    fun h => ⟨fun hoff => step_write_busy_acts hoff h, fun hoff => step_write_busy_refused hbusy hlt hoff h⟩⟩

/-! ### WDATA accesses and WIDX -/

section
variable {s : State} {rest : List Input}

theorem autoInc_eq_getLsbD (s : State) : s.autoInc = s.wsel.getLsbD 3 :=
  (Nat.testBit_eq_decide_div_mod_eq).symm

/-- A WDATA access moves WIDX and nothing else of what it leaves (R86). -/
theorem windowAdvance_eq (s : State) : s.windowAdvance = { s with widx := steppedIndex s } := by
  rw [State.windowAdvance, steppedIndex, autoInc_eq_getLsbD]
  split <;> rfl

theorem steppedIndex_eq (s : State) : steppedIndex s =
    if s.wsel.toNat / 2 ^ 3 % 2 = 1 then BitVec.ofNat 32 ((s.widx.toNat + 1) % 2 ^ 32) else s.widx := by
  have hnext : s.widx + 1#32 = BitVec.ofNat 32 ((s.widx.toNat + 1) % 2 ^ 32) := by
    apply BitVec.eq_of_toNat_eq
    simp [BitVec.toNat_add]
  rw [steppedIndex, ← autoInc_eq_getLsbD, State.autoInc, hnext]
  simp only [decide_eq_true_eq]

/-- A WDATA read of an element in range (R80-R84, R86). -/
theorem step_read_wdata {v : Nat} (hidle : s.phase = .idle) (h : ReadsNext s 0x048 rest)
    (hv : s.windowElement = some v) : step s = .next (windowAnswered s rest v) := by
  have helement : State.windowElement { s with inputs := rest } = some v := hv
  rw [step_read .wdata h (.inl (not_busy_of_idle hidle)), State.readReg, helement, windowAdvance_eq]
  rfl

/-- A WDATA read where there is no element (R85, R86). -/
theorem step_read_wdata_none (hidle : s.phase = .idle) (h : ReadsNext s 0x048 rest)
    (hnone : s.windowElement = none) : step s = .next (windowMissed s rest) := by
  have helement : State.windowElement { s with inputs := rest } = none := hnone
  rw [step_read .wdata h (.inl (not_busy_of_idle hidle)), State.readReg, helement, windowAdvance_eq]
  rfl

/-- A WDATA write inside CAP of a big register replaces a digit (R80). -/
theorem writeElement_register (hspace : s.space = 0) (hindex : s.windowIndex < s.cfg.cap) (w : Word) :
    s.writeElement w = s.setBig s.windowReg (s.windowDigitWritten w) := if_pos ⟨hspace, hindex⟩

/-- Any other WDATA write is ignored (R80-R85). -/
theorem writeElement_ignored (h : s.space ≠ 0 ∨ s.cfg.cap ≤ s.windowIndex) (w : Word) :
    s.writeElement w = s.flagHostErr := if_neg (by omega)

/-- A WDATA write inside CAP of a big register: the digit, and WIDX (R80, R86). -/
theorem step_write_wdata {w : Word} (hidle : s.phase = .idle) (h : WritesNext s 0x048 w rest) (hspace : s.space = 0)
    (hindex : s.windowIndex < s.cfg.cap) : step s = .next { s with
      inputs := rest
      b := s.b.set s.windowReg.val (s.windowDigitWritten w) s.windowReg.isLt
      widx := steppedIndex s } := by
  have hwrite := writeElement_register (s := { s with inputs := rest }) hspace hindex w
  rw [step_write .wdata h (.inl (not_busy_of_idle hidle)), State.writeReg, hwrite, windowAdvance_eq]
  rfl

/-- A WDATA write out of range, or outside SPACE 0: HOSTERR, and WIDX (R85, R86). -/
theorem step_write_wdata_ignored {w : Word} (hidle : s.phase = .idle) (h : WritesNext s 0x048 w rest)
    (hout : s.space ≠ 0 ∨ s.cfg.cap ≤ s.windowIndex) : step s = .next (windowIgnored s rest) := by
  have hwrite := writeElement_ignored (s := { s with inputs := rest }) hout w
  rw [step_write .wdata h (.inl (not_busy_of_idle hidle)), State.writeReg, hwrite, windowAdvance_eq]
  rfl

/-- `t` has the window selector and the index of `s`. -/
def WindowKept (s t : State) : Prop := t.widx = s.widx ∧ t.wsel = s.wsel

theorem windowKept_answerWindow (s : State) (x : Option Nat) : WindowKept s (s.answerWindow x) := by
  cases x <;> exact ⟨rfl, rfl⟩

theorem windowKept_writeElement (s : State) (w : Word) : WindowKept s (s.writeElement w) := by
  unfold State.writeElement
  split <;> exact ⟨rfl, rfl⟩

theorem windowKept_writeMeta (s : State) (w : Word) : WindowKept s (s.writeMeta w) := by
  unfold State.writeMeta
  split <;> exact ⟨rfl, rfl⟩

/-- The index moves by the selector and the index that stood before the access (R86). -/
theorem WindowKept.windowAdvance {t : State} (h : WindowKept s t) :
    t.windowAdvance.widx = steppedIndex s ∧ t.windowAdvance.wsel = s.wsel := by
  obtain ⟨hindex, hsel⟩ := h
  rw [windowAdvance_eq]
  exact ⟨by rw [steppedIndex, hindex, hsel]; rfl, hsel⟩

end

/-- Settles O21. -/
theorem windowAutoIncrement : Obligations.WindowAutoIncrement := by
  intro s t w rest hidle hstep
  have hread (r : HostReg) (h : ReadsNext s r.offset rest) : t = State.readReg { s with inputs := rest } r :=
    Host.Outcome.next.inj (hstep.symm.trans (step_read r h (.inl hidle)))
  have hwrite (r : HostReg) (h : WritesNext s r.offset w rest) : t = State.writeReg { s with inputs := rest } w r :=
    Host.Outcome.next.inj (hstep.symm.trans (step_write r h (.inl hidle)))
  rw [← steppedIndex_eq]
  refine ⟨?_, ?_⟩
  · rintro (h | h)
    · rw [hread .wdata h]
      exact (windowKept_answerWindow { s with inputs := rest } _).windowAdvance
    · rw [hwrite .wdata h]
      exact (windowKept_writeElement { s with inputs := rest } w).windowAdvance
  · rintro (h | h)
    · rw [hread .wmeta h]
      exact (windowKept_answerWindow { s with inputs := rest } _).1
    · rw [hwrite .wmeta h]
      exact (windowKept_writeMeta { s with inputs := rest } w).1

/-! ### The elements of each space -/

section
variable {s : State}

theorem windowElement_register (h : s.space = 0) : s.windowElement =
    if s.windowIndex < s.cfg.cap then some (digit s.b[s.windowReg].natAbs s.windowIndex) else none := by
  rw [State.windowElement, h]
  rfl

theorem windowElement_table {k : BankNo} (hk : k.val = s.windowReg.val) (h : s.space = 1) : s.windowElement =
    if s.tbl[k].valid = false then some 0
    else if s.windowEntry < s.tbl[k].len ∧ s.windowIndex < s.cfg.cap then
      some (digit (s.tbl[k].entries.getD s.windowEntry 0) s.windowIndex)
    else none := by
  rw [State.windowElement, h, bankField_eq_some hk]
  rfl

theorem windowElement_validTable {k : BankNo} (hk : k.val = s.windowReg.val) (h : s.space = 1)
    (hvalid : s.tbl[k].valid = true) : s.windowElement =
    if s.windowEntry < s.tbl[k].len ∧ s.windowIndex < s.cfg.cap then
      some (digit (s.tbl[k].entries.getD s.windowEntry 0) s.windowIndex)
    else none :=
  (windowElement_table hk h).trans (if_neg ((Bool.not_eq_false _).mpr hvalid))

theorem windowElement_modulus {k : BankNo} (hk : k.val = s.windowReg.val) (h : s.space = 2) : s.windowElement =
    if s.windowIndex < s.cfg.cap then some (digit s.tbl[k].modulus s.windowIndex) else none := by
  rw [State.windowElement, h, bankField_eq_some hk]
  rfl

theorem vectorField_eq_some {r : Fin 16} {k : VReg} (h : k.val = r.val) : vectorField r = some k := by
  have hr : r.val < 4 := h ▸ k.isLt
  rw [vectorField, dif_pos hr]
  exact congrArg some (Fin.ext h.symm)

theorem windowElement_vector {k : VReg} (hk : k.val = s.windowReg.val) (h : s.space = 3) : s.windowElement =
    if s.windowIndex < 2 * s.cfg.cap then some (s.rv[k].getD s.windowIndex 0) else none := by
  rw [State.windowElement, h, vectorField_eq_some hk]
  rfl

theorem windowElement_rom (h : s.space = 4) : s.windowElement =
    if s.windowIndex < s.cfg.primeCount then some (s.cfg.primeAt s.windowIndex) else none := by
  rw [State.windowElement, h]
  rfl

/-- The reserved spaces, and the register numbers that name no bank or no vector, have no elements (R85). -/
theorem windowElement_eq_none (h : 5 ≤ s.space ∨ ((s.space = 1 ∨ s.space = 2) ∧ 2 ≤ s.windowReg.val) ∨
    (s.space = 3 ∧ 4 ≤ s.windowReg.val)) : s.windowElement = none := by
  rcases h with h | ⟨h | h, hr⟩ | ⟨h, hr⟩
  · unfold State.windowElement
    split
    case h_6 => rfl
    all_goals omega
  · rw [State.windowElement, h, bankField_eq_none hr]
    rfl
  · rw [State.windowElement, h, bankField_eq_none hr]
    rfl
  · rw [State.windowElement, h, vectorField_eq_none hr]
    rfl

end

/-- Settles O19. -/
theorem windowReadsBanks : Obligations.WindowReadsBanks := by
  intro s k w rest hidle (hk : k.val = s.windowReg.val)
  refine ⟨fun (hspace : s.space = 1) => ⟨fun h => ⟨?_, ?_, ?_⟩, ?_⟩, fun (hspace : s.space = 2) => ⟨fun h => ⟨?_, ?_⟩, ?_⟩⟩
  · intro hinvalid
    exact step_read_wdata hidle h ((windowElement_table hk hspace).trans (if_pos hinvalid))
  · intro hvalid hentry hindex
    exact step_read_wdata hidle h ((windowElement_validTable hk hspace hvalid).trans (if_pos ⟨hentry, hindex⟩))
  · intro hvalid hout
    have hmiss : ¬(s.windowEntry < s.tbl[k].len ∧ s.windowIndex < s.cfg.cap) := fun ⟨hentry, hindex⟩ =>
      hout.elim hentry.not_ge hindex.not_ge
    exact step_read_wdata_none hidle h ((windowElement_validTable hk hspace hvalid).trans (if_neg hmiss))
  · exact fun h => step_write_wdata_ignored hidle h (.inl (by omega))
  · intro hindex
    exact step_read_wdata hidle h ((windowElement_modulus hk hspace).trans (if_pos hindex))
  · intro hindex
    exact step_read_wdata_none hidle h ((windowElement_modulus hk hspace).trans (if_neg hindex.not_gt))
  · exact fun h => step_write_wdata_ignored hidle h (.inl (by omega))

/-- Settles O20. -/
theorem windowReadsVectorsAndRom : Obligations.WindowReadsVectorsAndRom := by
  intro s r w rest hidle hr
  obtain rfl : r = s.windowReg := Fin.ext hr
  refine ⟨fun h => ⟨?_, ?_, fun hmiss => step_read_wdata_none hidle h ?_⟩, ?_⟩
  · intro k hk hspace hindex
    exact step_read_wdata hidle h ((windowElement_vector hk hspace).trans (if_pos hindex))
  · intro hspace hindex
    exact step_read_wdata hidle h ((windowElement_rom hspace).trans (if_pos hindex))
  · rcases hmiss with ⟨hspace, hreg, hindex⟩ | ⟨hspace, hindex⟩ | hnone
    · exact (windowElement_vector (k := ⟨s.windowReg.val, hreg⟩) rfl hspace).trans (if_neg hindex.not_gt)
    · exact (windowElement_rom hspace).trans (if_neg hindex.not_gt)
    · exact windowElement_eq_none hnone
  · exact fun h hspace => step_write_wdata_ignored hidle h (.inl hspace)

/-! ### One digit replaced -/

/-- The digits of a number split at digit `i`. -/
theorem digit_add_mul {low i : Nat} (hlow : low < radix ^ i) (high k : Nat) :
    digit (low + radix ^ i * high) k = if k < i then digit low k else digit high (k - i) := by
  split
  · next hk =>
    obtain ⟨c, hc⟩ := pow_dvd_pow radix (show k + 1 ≤ i from hk)
    rw [digit, digit, ← Nat.mod_mul_right_div_self, ← Nat.mod_mul_right_div_self low, ← Nat.pow_succ, hc, Nat.mul_assoc,
      Nat.add_mul_mod_self_left]
  · next hk =>
    have hpow : radix ^ k = radix ^ i * radix ^ (k - i) := by rw [← Nat.pow_add, Nat.add_sub_cancel' (not_lt.mp hk)]
    have hhigh : (low + radix ^ i * high) / radix ^ i = high := by
      rw [Nat.add_mul_div_left _ _ (Nat.pow_pos radix_pos), Nat.div_eq_of_lt hlow, Nat.zero_add]
    rw [digit, digit, hpow, ← Nat.div_div_eq_div_mul, hhigh]

/-- A number is its digits below `i`, digit `i`, and the rest. -/
theorem mod_add_digit_add (x i : Nat) :
    x % radix ^ i + radix ^ i * (digit x i + radix * (x / radix ^ i / radix)) = x := by
  rw [digit, Nat.mod_add_div, Nat.mod_add_div]

/-- Replacing digit `i` keeps the digits below it and the rest (R32, R80). -/
theorem withDigit_eq (x i w : Nat) :
    withDigit x i w = x % radix ^ i + radix ^ i * (w + radix * (x / radix ^ i / radix)) := by
  have hsplit := mod_add_digit_add x i
  rw [Nat.mul_add] at hsplit ⊢
  rw [withDigit, Nat.mul_comm (digit x i), Nat.mul_comm w]
  generalize x % radix ^ i = low at *
  omega

theorem digit_lowDigit_add {d : Nat} (hd : d < radix) (high k : Nat) :
    digit (d + radix * high) k = if k = 0 then d else digit high (k - 1) := by
  have hsplit := digit_add_mul (i := 1) (by simpa using hd) high k
  rw [Nat.pow_one] at hsplit
  rw [hsplit]
  cases k with
  | zero => simp [digit, Nat.mod_eq_of_lt hd]
  | succ k => simp

/-- Below `i` and above `i` the number and the number with digit `i` replaced are made of the same parts. -/
theorem digit_withDigit (x i : Nat) {w : Nat} (hw : w < radix) (k : Nat) :
    digit (withDigit x i w) k = if k = i then w else digit x k := by
  have hlow : x % radix ^ i < radix ^ i := Nat.mod_lt _ (Nat.pow_pos radix_pos)
  have hx := digit_add_mul hlow (digit x i + radix * (x / radix ^ i / radix)) k
  rw [mod_add_digit_add, digit_lowDigit_add (digit_lt x i)] at hx
  rw [withDigit_eq, digit_add_mul hlow, digit_lowDigit_add hw]
  rcases Nat.lt_trichotomy k i with hk | rfl | hk
  · rw [hx, if_pos hk, if_pos hk, if_neg hk.ne]
  · simp
  · have hne : k - i ≠ 0 := by omega
    rw [hx, if_neg hk.not_gt, if_neg hk.not_gt, if_neg hne, if_neg hne, if_neg hk.ne']

theorem natAbs_windowDigitWritten (s : State) (w : Word) :
    (s.windowDigitWritten w).natAbs = withDigit s.b[s.windowReg].natAbs s.windowIndex w.toNat := by
  unfold State.windowDigitWritten
  split
  · rw [Int.natAbs_neg, Int.natAbs_natCast]
  · rw [Int.natAbs_natCast]

/-- A digit write keeps the sign while the value is not zero (R32, R80). -/
theorem windowDigitWritten_neg_iff (s : State) (w : Word) :
    s.windowDigitWritten w < 0 ↔ s.b[s.windowReg] < 0 ∧ s.windowDigitWritten w ≠ 0 := by
  unfold State.windowDigitWritten
  split <;> omega

/-- Settles O17: a read by the element of SPACE 0, a write by the digits of `withDigit`. -/
theorem windowBigRegisterDigits : Obligations.WindowBigRegisterDigits := by
  intro s r w rest hidle (hspace : s.space = 0) hr hfits
  obtain rfl : r = s.windowReg := Fin.ext hr
  refine ⟨fun h => ⟨?_, ?_⟩, fun h => ⟨fun hindex => ?_, fun hindex => ?_⟩⟩
  · intro hindex
    exact step_read_wdata hidle h ((windowElement_register hspace).trans (if_pos hindex))
  · intro hindex
    exact step_read_wdata_none hidle h ((windowElement_register hspace).trans (if_neg hindex.not_gt))
  · refine ⟨_, step_write_wdata hidle h hspace hindex, ?_, windowDigitWritten_neg_iff s w, fun k => ?_⟩
    · rw [natAbs_windowDigitWritten]
      exact withDigit_lt hfits hindex w.isLt
    · rw [natAbs_windowDigitWritten]
      exact digit_withDigit _ _ w.isLt k
  · exact step_write_wdata_ignored hidle h (.inr hindex)

end Sys2Proof.Machine
end

section
/-! PROOFS. The command word (R101-R106): an instruction is its fields, a word is its fields, and the decoder answers
the instruction whose fields it reads; legality by the opcode table is the decoder's. -/

namespace Sys2Proof

/-! ### The fields of an instruction -/

/-- The fields of an instruction's command word (R101, R104), RSV 0. -/
def Instr.fields : Instr → Fields
  | .nop => ⟨0x00, 0, 0, 0, 0, 0, 0, 0⟩
  | .clr d => ⟨0x01, d, 0, 0, 0, 0, 0, 0⟩
  | .setone d => ⟨0x02, d, 0, 0, 0, 0, 0, 0⟩
  | .mov d a => ⟨0x03, d, a, 0, 0, 0, 0, 0⟩
  | .setu64 d => ⟨0x04, d, 0, 0, 0, 0, 0, 0⟩
  | .getu64 a => ⟨0x05, 0, a, 0, 0, 0, 0, 0⟩
  | .test a => ⟨0x06, 0, a, 0, 0, 0, 0, 0⟩
  | .cmp a b => ⟨0x07, 0, a, b, 0, 0, 0, 0⟩
  | .shl d a => ⟨0x08, d, a, 0, 0, 0, 0, 0⟩
  | .shr d a => ⟨0x09, d, a, 0, 0, 0, 0, 0⟩
  | .addu64 d a => ⟨0x0A, d, a, 0, 0, 0, 0, 0⟩
  | .subu64 d a => ⟨0x0B, d, a, 0, 0, 0, 0, 0⟩
  | .rndodd d => ⟨0x0C, d, 0, 0, 0, 0, 0, 0⟩
  | .add d a b => ⟨0x10, d, a, b, 0, 0, 0, 0⟩
  | .sub d a b => ⟨0x11, d, a, b, 0, 0, 0, 0⟩
  | .mul d a b => ⟨0x12, d, a, b, 0, 0, 0, 0⟩
  | .sqr d a => ⟨0x13, d, a, 0, 0, 0, 0, 0⟩
  | .div d a b c => ⟨0x18, d, a, b, c, 0, 0, 0⟩
  | .sdiv d a => ⟨0x19, d, a, 0, 0, 0, 0, 0⟩
  | .rem32 a => ⟨0x1A, 0, a, 0, 0, 0, 0, 0⟩
  | .rem64 a => ⟨0x1B, 0, a, 0, 0, 0, 0, 0⟩
  | .gcd d a b => ⟨0x20, d, a, b, 0, 0, 0, 0⟩
  | .inv d a b => ⟨0x21, d, a, b, 0, 0, 0, 0⟩
  | .invse d a => ⟨0x22, d, a, 0, 0, 0, 0, 0⟩
  | .smallfact a => ⟨0x23, 0, a, 0, 0, 0, 0, 0⟩
  | .isqrt d a => ⟨0x24, d, a, 0, 0, 0, 0, 0⟩
  | .modexp d a b c t u => ⟨0x28, d, a, b, c, t, ⟨u.bit, u.bit_lt⟩, 0⟩
  | .fermat a t => ⟨0x29, 0, a, 0, 0, t, 0, 0⟩
  | .fermat1 a t => ⟨0x2A, 0, a, 0, 0, t, 0, 0⟩
  | .tblbuild a t => ⟨0x30, 0, a, 0, 0, t, 0, 0⟩
  | .reduce d a t => ⟨0x31, d, a, 0, 0, t, 0, 0⟩
  | .rvfrom d a => ⟨0x38, d.castLE (by decide), a, 0, 0, 0, 0, 0⟩
  | .rvadd d a b => ⟨0x39, d.castLE (by decide), a.castLE (by decide), b.castLE (by decide), 0, 0, 0, 0⟩
  | .rvsub d a b => ⟨0x3A, d.castLE (by decide), a.castLE (by decide), b.castLE (by decide), 0, 0, 0, 0⟩
  | .rvmul d a b => ⟨0x3B, d.castLE (by decide), a.castLE (by decide), b.castLE (by decide), 0, 0, 0, 0⟩
  | .crt d a g u => ⟨0x40, d, a, g.castLE (by decide), 0, 0, ⟨u.bit, u.bit_lt⟩, 0⟩

theorem encode_eq_pack (i : Instr) : encode i =
    pack i.opcode i.fields.d i.fields.a i.fields.b i.fields.c i.fields.t i.fields.u := by
  cases i <;> rfl

theorem Instr.opcode_lt (i : Instr) : i.opcode < 256 := by cases i <;> exact Nat.le_of_ble_eq_true rfl

/-- The word of an instruction has the instruction's fields. -/
theorem fieldsOf_encode (i : Instr) : fieldsOf (encode i) = i.fields := by
  rw [encode_eq_pack, fieldsOf_pack i.opcode_lt]
  cases i <;> rfl

/-- A word is its fields: R101's positions cover all 32 bits. -/
theorem fieldsOf_injective {v w : Word} (h : fieldsOf v = fieldsOf w) : v = w := by
  simp only [fieldsOf, Fields.mk.injEq, Fin.mk.injEq] at h
  exact BitVec.eq_of_toNat_eq (by omega)

/-! ### The parts of the decoder -/

theorem vectorField_castLE (r : VReg) : vectorField (r.castLE (by decide)) = some r := dif_pos r.isLt

theorem groupField_castLE (g : KeyGroup) : groupField (g.castLE (by decide)) = some g := dif_pos g.isLt

theorem eq_castLE_of_vectorField {x : Fin 16} {r : VReg} (h : vectorField x = some r) :
    r.castLE (by decide) = x := by
  obtain ⟨_, hx⟩ := Option.dite_none_right_eq_some.mp h
  rw [← Option.some.inj hx]
  rfl

theorem eq_castLE_of_groupField {x : Fin 16} {g : KeyGroup} (h : groupField x = some g) :
    g.castLE (by decide) = x := by
  obtain ⟨_, hx⟩ := Option.dite_none_right_eq_some.mp h
  rw [← Option.some.inj hx]
  rfl

theorem lt_of_vectorField {x : Fin 16} {r : VReg} (h : vectorField x = some r) : x.val < 4 :=
  (Option.dite_none_right_eq_some.mp h).1

theorem lt_of_groupField {x : Fin 16} {g : KeyGroup} (h : groupField x = some g) : x.val < 12 :=
  (Option.dite_none_right_eq_some.mp h).1

theorem Fields.bit_use (f : Fields) : (⟨f.use.bit, f.use.bit_lt⟩ : Fin 2) = f.u := by
  have hbits : ∀ u : Fin 2, (if u = 0 then Use.fresh else Use.reuse).bit = u.val := by decide
  exact Fin.ext (hbits f.u)

/-- R105(b): the decoder accepts exactly the instruction it was given, and only with RSV and the unused fields 0. -/
theorem Fields.accept_eq_ok {f : Fields} {unused : List Nat} {i j : Instr} :
    f.accept unused i = .ok j ↔ (f.rsv = 0 ∧ ∀ x ∈ unused, x = 0) ∧ i = j := by
  simp only [Fields.accept, List.all_eq_true, beq_iff_eq]
  split
  · next hzero => exact ⟨fun h => ⟨hzero, Except.ok.inj h⟩, fun h => congrArg _ h.2⟩
  · next hzero => exact ⟨nofun, fun h => absurd h.1 hzero⟩

/-! ### Both directions -/

/-- The decoder answers an instruction on the instruction's own fields. -/
theorem decodeFields_fields {i : Instr} (h : i.wellFormed = true) : decodeFields i.fields = .ok i := by
  cases i with
  | div d a b c => exact if_neg (of_decide_eq_true h)
  | modexp d a b c t u => cases u <;> rfl
  | rvfrom d a => simp only [Instr.fields, decodeFields, vectorField_castLE]; rfl
  | rvadd d a b => simp only [Instr.fields, decodeFields, vectorField_castLE]; rfl
  | rvsub d a b => simp only [Instr.fields, decodeFields, vectorField_castLE]; rfl
  | rvmul d a b => simp only [Instr.fields, decodeFields, vectorField_castLE]; rfl
  | crt d a g u =>
    simp only [Instr.fields, decodeFields, groupField_castLE]
    cases u <;> rfl
  | _ => rfl

/-- Settles O1: the word has the instruction's fields, and the decoder reads them. -/
theorem decodeOfEncode : Obligations.DecodeOfEncode := by
  intro i h
  rw [decode, fieldsOf_encode]
  exact decodeFields_fields h

theorem Fields.mk_eq_iff {op rsv : Nat} {d a b c : Fin 16} {t u : Fin 2} {f : Fields} :
    (⟨op, d, a, b, c, t, u, rsv⟩ : Fields) = f ↔ f.op = op ∧ f.d = d ∧ f.a = a ∧ f.b = b ∧ f.c = c ∧ f.t = t ∧ f.u = u ∧
      f.rsv = rsv := by
  obtain ⟨_, _, _, _, _, _, _, _⟩ := f
  simp only [Fields.mk.injEq, eq_comm]

/-- An accepted instruction has the fields that were read, if it has them where RSV and the unused fields are 0. -/
theorem fields_of_accept {f : Fields} {unused : List Nat} {i j : Instr} (h : f.accept unused j = .ok i)
    (hwf : j.wellFormed = true) (hfields : f.rsv = 0 → (∀ x ∈ unused, x = 0) → j.fields = f) :
    i.wellFormed = true ∧ i.fields = f := by
  obtain ⟨⟨hrsv, hunused⟩, rfl⟩ := Fields.accept_eq_ok.mp h
  exact ⟨hwf, hfields hrsv hunused⟩

/-- The decoder answers only a well-formed instruction whose fields are those it read. -/
theorem fields_of_decodeFields {f : Fields} {i : Instr} (h : decodeFields f = .ok i) :
    i.wellFormed = true ∧ i.fields = f := by
  unfold decodeFields at h
  split at h
  case h_18 hop =>
    split at h
    · cases h
    · next hne =>
      exact fields_of_accept h (decide_eq_true hne) (by
        simp +contextual only [List.forall_mem_cons, Fin.val_eq_zero_iff, Instr.fields, Fields.mk_eq_iff, hop, and_self,
          implies_true])
  case h_32 hop =>
    split at h
    · next hd =>
      exact fields_of_accept h rfl (by
        simp +contextual only [List.forall_mem_cons, Fin.val_eq_zero_iff, Instr.fields, Fields.mk_eq_iff, hop,
          eq_castLE_of_vectorField hd, and_self, implies_true])
    · cases h
  case h_33 hop | h_34 hop | h_35 hop =>
    split at h
    · next hd ha hb =>
      exact fields_of_accept h rfl (by
        simp +contextual only [List.forall_mem_cons, Fin.val_eq_zero_iff, Instr.fields, Fields.mk_eq_iff, hop,
          eq_castLE_of_vectorField hd, eq_castLE_of_vectorField ha, eq_castLE_of_vectorField hb, and_self,
          implies_true])
    · cases h
  case h_36 hop =>
    split at h
    · next hg =>
      exact fields_of_accept h rfl (by
        simp +contextual only [List.forall_mem_cons, Fin.val_eq_zero_iff, Instr.fields, Fields.mk_eq_iff, hop,
          eq_castLE_of_groupField hg, f.bit_use, and_self, implies_true])
    · cases h
  case h_37 => cases h
  all_goals
    next hop =>
    exact fields_of_accept h rfl (by
      simp +contextual only [List.forall_mem_cons, Fin.val_eq_zero_iff, Instr.fields, Fields.mk_eq_iff, hop, f.bit_use,
        and_self, implies_true])

/-- Settles O2: word and encoding have the same fields. -/
theorem encodeOfDecode : Obligations.EncodeOfDecode := by
  intro w i h
  obtain ⟨hwf, hfields⟩ := fields_of_decodeFields h
  exact ⟨hwf, fieldsOf_injective ((fieldsOf_encode i).trans hfields)⟩

/-- Settles O5: closed words, by evaluation. -/
theorem specExampleWordsDecode : Obligations.SpecExampleWordsDecode :=
  ⟨by decide, by decide, by decide, by decide⟩

/-! ### The opcode table -/

/-- The opcode of a row of the table. -/
def OpcodeRow.op (r : OpcodeRow) : Nat := (fieldsOf r.bits).op

/-- The operand fields of `f` that the mask with fields `m` fixes. -/
def Fields.fixedBy (f m : Fields) : List Nat :=
  (if m.d = 0 then [] else [f.d.val]) ++ (if m.a = 0 then [] else [f.a.val]) ++ (if m.b = 0 then [] else [f.b.val]) ++
    (if m.c = 0 then [] else [f.c.val]) ++ (if m.t = 0 then [] else [f.t.val]) ++ (if m.u = 0 then [] else [f.u.val])

/-- R105(b) by the mask of row `r`: RSV and the operand fields that the row does not use are 0. -/
def OpcodeRow.unusedZero (r : OpcodeRow) (f : Fields) : Prop :=
  f.rsv = 0 ∧ ∀ x ∈ f.fixedBy (fieldsOf r.mask), x = 0

/-- The table's row of an opcode. -/
def rowOf (op : Nat) : Option OpcodeRow := opcodeTable.find? (fun r => r.op == op)

/-- The opcodes of R104. -/
def opcodes : List Nat :=
  [0x00, 0x01, 0x02, 0x03, 0x04, 0x05, 0x06, 0x07, 0x08, 0x09, 0x0A, 0x0B, 0x0C, 0x10, 0x11, 0x12, 0x13, 0x18, 0x19,
    0x1A, 0x1B, 0x20, 0x21, 0x22, 0x23, 0x24, 0x28, 0x29, 0x2A, 0x30, 0x31, 0x38, 0x39, 0x3A, 0x3B, 0x40]

theorem mem_opcodes_of_rowOf {op : Nat} {r : OpcodeRow} (h : rowOf op = some r) : op ∈ opcodes := by
  have htable : ∀ r ∈ opcodeTable, r.op ∈ opcodes := by decide
  have hop : r.op = op := by simpa using List.find?_some h
  exact hop ▸ htable r (List.mem_of_find?_eq_some h)

/-- A mask takes each field whole or not at all, and always OP and RSV; a match value has an opcode only (R105). -/
abbrev OpcodeRow.WholeFields (r : OpcodeRow) : Prop :=
  (fieldsOf r.mask).op = 255 ∧ (fieldsOf r.mask).rsv = 63 ∧
    ((fieldsOf r.mask).d = 0 ∨ (fieldsOf r.mask).d = 15) ∧ ((fieldsOf r.mask).a = 0 ∨ (fieldsOf r.mask).a = 15) ∧
    ((fieldsOf r.mask).b = 0 ∨ (fieldsOf r.mask).b = 15) ∧ ((fieldsOf r.mask).c = 0 ∨ (fieldsOf r.mask).c = 15) ∧
    ((fieldsOf r.mask).t = 0 ∨ (fieldsOf r.mask).t = 1) ∧ ((fieldsOf r.mask).u = 0 ∨ (fieldsOf r.mask).u = 1) ∧
    fieldsOf r.bits = ⟨r.op, 0, 0, 0, 0, 0, 0, 0⟩

theorem wholeFields_of_mem {r : OpcodeRow} (hr : r ∈ opcodeTable) : r.WholeFields := by
  have htable : ∀ r ∈ opcodeTable, r.WholeFields := by decide
  exact htable r hr

theorem rowOf_op {r : OpcodeRow} (hr : r ∈ opcodeTable) : rowOf r.op = some r := by
  have htable : ∀ r ∈ opcodeTable, rowOf r.op = some r := by decide
  exact htable r hr

/-- Masking a word masks its fields. -/
theorem fieldsOf_and (v w : Word) : fieldsOf (v &&& w) =
    ⟨(fieldsOf v).op &&& (fieldsOf w).op, (fieldsOf v).d &&& (fieldsOf w).d, (fieldsOf v).a &&& (fieldsOf w).a,
      (fieldsOf v).b &&& (fieldsOf w).b, (fieldsOf v).c &&& (fieldsOf w).c, (fieldsOf v).t &&& (fieldsOf w).t,
      (fieldsOf v).u &&& (fieldsOf w).u, (fieldsOf v).rsv &&& (fieldsOf w).rsv⟩ := by
  have hfield (n m : Nat) : (v.toNat &&& w.toNat) / 2 ^ n % 2 ^ m =
      (v.toNat / 2 ^ n % 2 ^ m) &&& (w.toNat / 2 ^ n % 2 ^ m) := by
    rw [Nat.and_div_two_pow, Nat.and_mod_two_pow]
  simp only [fieldsOf, BitVec.toNat_and, Fields.mk.injEq, Fin.ext_iff, Fin.and_val]
  exact ⟨Nat.and_div_two_pow, hfield 20 4, hfield 16 4, hfield 12 4, hfield 8 4, hfield 7 1, hfield 6 1,
    Nat.and_mod_two_pow (n := 6)⟩

/-- A register field masked whole or not at all is 0 when the mask leaves it free or it is 0. -/
theorem registerField_and_eq_zero_iff : ∀ x m : Fin 16, m = 0 ∨ m = 15 →
    (x &&& m = 0 ↔ ∀ y ∈ (if m = 0 then [] else [x.val]), y = 0) := by decide

/-- The same of a field of one bit. -/
theorem bitField_and_eq_zero_iff : ∀ x m : Fin 2, m = 0 ∨ m = 1 →
    (x &&& m = 0 ↔ ∀ y ∈ (if m = 0 then [] else [x.val]), y = 0) := by decide

/-- A word matches a row exactly when OP is the row's opcode, and RSV and the fields the row does not use are 0. -/
theorem hits_iff {r : OpcodeRow} (hr : r ∈ opcodeTable) (w : Word) :
    r.hits w = true ↔ (fieldsOf w).op = r.op ∧ r.unusedZero (fieldsOf w) := by
  obtain ⟨hop, hrsv, hd, ha, hb, hc, ht, hu, hbits⟩ := wholeFields_of_mem hr
  have hop255 : (fieldsOf w).op &&& 255 = (fieldsOf w).op := by
    rw [show 255 = 2 ^ 8 - 1 from rfl, Nat.and_two_pow_sub_one_eq_mod]
    exact Nat.mod_eq_of_lt (Nat.div_lt_of_lt_mul w.isLt)
  have hrsv63 : (fieldsOf w).rsv &&& 63 = (fieldsOf w).rsv := by
    rw [show 63 = 2 ^ 6 - 1 from rfl, Nat.and_two_pow_sub_one_eq_mod]
    exact Nat.mod_mod _ _
  have hword : r.hits w = true ↔ fieldsOf (w &&& r.mask) = fieldsOf r.bits :=
    beq_iff_eq.trans ⟨congrArg _, fieldsOf_injective⟩
  rw [hword, fieldsOf_and, hbits, hop, hrsv, hop255, hrsv63]
  simp only [Fields.mk.injEq, registerField_and_eq_zero_iff _ _ hd, registerField_and_eq_zero_iff _ _ ha,
    registerField_and_eq_zero_iff _ _ hb, registerField_and_eq_zero_iff _ _ hc, bitField_and_eq_zero_iff _ _ ht,
    bitField_and_eq_zero_iff _ _ hu, OpcodeRow.unusedZero, Fields.fixedBy, List.forall_mem_append]
  exact ⟨fun ⟨h, hd, ha, hb, hc, ht, hu, hrsv⟩ => ⟨h, hrsv, ⟨⟨⟨⟨hd, ha⟩, hb⟩, hc⟩, ht⟩, hu⟩,
    fun ⟨h, hrsv, ⟨⟨⟨⟨hd, ha⟩, hb⟩, hc⟩, ht⟩, hu⟩ => ⟨h, hd, ha, hb, hc, ht, hu, hrsv⟩⟩

theorem exists_hits_iff (w : Word) : opcodeTable.any (fun r => r.hits w) = true ↔
    ∃ r, rowOf (fieldsOf w).op = some r ∧ r.unusedZero (fieldsOf w) := by
  rw [List.any_eq_true]
  constructor
  · rintro ⟨r, hr, hhits⟩
    obtain ⟨hop, hzero⟩ := (hits_iff hr w).mp hhits
    exact ⟨r, hop.symm ▸ rowOf_op hr, hzero⟩
  · rintro ⟨r, hrow, hzero⟩
    have hr := List.mem_of_find?_eq_some hrow
    have hop : r.op = (fieldsOf w).op := by simpa using List.find?_some hrow
    exact ⟨r, hr, (hits_iff hr w).mpr ⟨hop.symm, hzero⟩⟩

/-- Where the row's constraints hold, the decoder's list of unused fields and the row's mask refuse the same words. -/
theorem exists_accept_iff {f : Fields} {op : Nat} {r : OpcodeRow} {unused : List Nat} {j : Instr} (hop : f.op = op)
    (hrow : rowOf op = some r) (hunused : f.fixedBy (fieldsOf r.mask) = unused) (hc : constraintsHold f = true) :
    (∃ i, f.accept unused j = .ok i) ↔ (∃ r, rowOf f.op = some r ∧ r.unusedZero f) ∧ constraintsHold f = true := by
  simp only [Fields.accept_eq_ok, hop, hrow, hc, Option.some.injEq, OpcodeRow.unusedZero, exists_eq_left', hunused,
    exists_and_left, exists_eq', and_true]

/-- The decoder answers an instruction exactly where the table and the constraints (c)-(e) allow it (R105). -/
theorem exists_decodeFields_iff (f : Fields) : (∃ i, decodeFields f = .ok i) ↔
    (∃ r, rowOf f.op = some r ∧ r.unusedZero f) ∧ constraintsHold f = true := by
  unfold decodeFields
  split
  case h_18 hop =>
    split
    · next heq =>
      exact iff_of_false nofun fun h => by simp [constraintsHold, hop, heq] at h
    · next hne =>
      exact exists_accept_iff hop rfl rfl (by simp [constraintsHold, hop, hne])
  case h_32 hop =>
    split
    · next hd => exact exists_accept_iff hop rfl rfl (by simp [constraintsHold, hop, lt_of_vectorField hd])
    · next hnone =>
      refine iff_of_false nofun fun h => ?_
      have hd : f.d.val < 4 := by simpa [constraintsHold, hop] using h.2
      exact Option.some_ne_none _ ((dif_pos hd).symm.trans hnone)
  case h_33 hop | h_34 hop | h_35 hop =>
    split
    · next hd ha hb =>
      exact exists_accept_iff hop rfl rfl (by
        simp [constraintsHold, hop, lt_of_vectorField hd, lt_of_vectorField ha, lt_of_vectorField hb])
    · next hnone =>
      refine iff_of_false nofun fun h => ?_
      obtain ⟨hd, ha, hb⟩ : f.d.val < 4 ∧ f.a.val < 4 ∧ f.b.val < 4 := by simpa [constraintsHold, hop] using h.2
      exact hnone _ _ _ (dif_pos hd) (dif_pos ha) (dif_pos hb)
  case h_36 hop =>
    split
    · next hg =>
      have hle := Nat.le_of_lt_succ (lt_of_groupField hg)
      exact exists_accept_iff hop rfl rfl (by simpa [constraintsHold, hop] using hle)
    · next hnone =>
      refine iff_of_false nofun fun h => ?_
      have hg : f.b.val ≤ 11 := by simpa [constraintsHold, hop] using h.2
      exact Option.some_ne_none _ ((dif_pos (Nat.lt_succ_of_le hg)).symm.trans hnone)
  case h_37 =>
    refine iff_of_false nofun fun ⟨⟨r, hrow, _⟩, _⟩ => ?_
    have hmem := mem_opcodes_of_rowOf hrow
    simp only [opcodes, List.mem_cons, List.not_mem_nil] at hmem
    simp_all only [imp_false, or_false]
  all_goals
    next hop =>
    exact exists_accept_iff hop rfl rfl (by simp only [constraintsHold, hop])

theorem legal_iff (w : Word) : legal w = true ↔ ∃ i, decode w = .ok i := by
  rw [legal, Bool.and_eq_true, exists_hits_iff]
  exact (exists_decodeFields_iff (fieldsOf w)).symm

/-! ### Reserved opcodes -/

/-- Every opcode outside R104's is refused as reserved (R105(a), R106). -/
theorem decodeFields_reserved {f : Fields} (h : f.op ∉ opcodes) : decodeFields f = .error .reservedOpcode := by
  unfold decodeFields
  split
  case h_37 => rfl
  all_goals
    next hop =>
    exact absurd (by rw [hop]; decide) h

/-- Settles O4. -/
theorem reservedOpcodesIllegal : Obligations.ReservedOpcodesIllegal := by
  rintro w op rfl hreserved
  have hop : (fieldsOf w).op ∉ opcodes := by
    simp only [opcodes, fieldsOf, List.mem_cons, List.not_mem_nil, or_false]
    omega
  have hdecode : decode w = .error .reservedOpcode := decodeFields_reserved hop
  refine ⟨hdecode, Bool.eq_false_iff.mpr fun hlegal => ?_⟩
  obtain ⟨i, hi⟩ := (legal_iff w).mp hlegal
  exact nomatch hdecode.symm.trans hi

end Sys2Proof

namespace Sys2Proof.Machine

/-! ### The core's turn on a word that is not legal -/

theorem step_of_core {s : State} {rest : List Input} (h : s.inputs = .core :: rest) :
    step s = State.coreStep { s with inputs := rest } := by
  simp only [step, h]

theorem coreStep_illegal {s : State} {j : Job} (hphase : s.phase = .run j) (h : legal j.word = false) :
    s.coreStep = .next (s.illegalEnd j.word) := by
  simp only [State.coreStep, hphase]
  split
  · next i hi => exact absurd ((legal_iff j.word).mpr ⟨i, hi⟩) (Bool.eq_false_iff.mp h)
  · rfl

/-- Settles O3. -/
theorem legalWordsDecodeOthersEnd : Obligations.LegalWordsDecodeOthersEnd := by
  refine ⟨legal_iff, fun s j rest hin hphase hlegal => ?_⟩
  exact ⟨_, (step_of_core hin).trans (coreStep_illegal hphase hlegal), State.failWith_spec _ _ _⟩

end Sys2Proof.Machine
end

section
/-! PROOFS. The accesses of `li bN, v` (R124): CLR with its wait, the window set on the register, the digits from the
lowest up (R80, R86), and the sign (R61). -/

namespace Sys2Proof.Machine

/-! ### Runs -/

theorem run_succ {n : Nat} {s t : State} (h : step s = .next t) : core.run (n + 1) s = core.run n t := by
  have hstep : core.step s = .next t := h
  simp only [Host.Core.run, hstep]

theorem run_one (s : State) : core.run 1 s = step s := by
  cases h : step s with
  | next t => exact run_succ h
  | fault f => exact nomatch f
  | refused f =>
    have hstep : core.step s = .refused f := h
    simp only [Host.Core.run, hstep]
    rfl

theorem run_add {m n : Nat} {s t : State} (h : core.run m s = .next t) : core.run (m + n) s = core.run n t := by
  induction m generalizing s with
  | zero =>
    obtain rfl := Host.Outcome.next.inj h
    rw [Nat.zero_add]
  | succ m ih =>
    cases hs : step s with
    | next u =>
      rw [run_succ hs] at h
      rw [Nat.add_right_comm, run_succ hs, ih h]
    | fault f => exact nomatch f
    | refused f =>
      have hstep : core.step s = .refused f := hs
      simp only [Host.Core.run, hstep] at h
      cases h

theorem coreStep_of_decode {s : State} {j : Job} {i : Instr} (hphase : s.phase = .run j) (h : decode j.word = .ok i) :
    s.coreStep = exec i s := by
  simp only [State.coreStep, hphase, h]

/-- The CMD write of a well-formed command to an idle core, and the core's turn: the command's first segment (R316,
R323). -/
theorem run_command {s : State} {i : Instr} {rest : List Input} (hidle : s.phase = .idle) (hwf : i.wellFormed = true)
    (h : s.inputs = memWrite s.cfg 0x010 (encode i) :: .core :: rest) :
    core.run 2 s = exec i (State.accept { s with inputs := rest } (encode i)) := by
  rw [run_succ (step_write .cmd h (.inl (not_busy_of_idle hidle))), run_one, step_of_core rfl]
  exact coreStep_of_decode rfl (decodeOfEncode i hwf)

/-! ### What a load keeps -/

/-- From `s` to the idle state `t`, a load of `b[r]` keeps what R124 says it keeps. -/
structure LoadKept (r : BReg) (s t : State) : Prop where
  cfg : t.cfg = s.cfg
  phase : t.phase = .idle
  big : BigKept [r] s t
  banks : BanksKept [] s t
  vectors : VectorsKept [] s t
  res : ResKept s t
  arg0 : t.arg0 = s.arg0
  arg1 : t.arg1 = s.arg1
  hostErr : t.hostErr = s.hostErr

section
variable {r : BReg} {s t u : State} {rest : List Input}

theorem LoadKept.refl (hidle : s.phase = .idle) : LoadKept r s s :=
  ⟨rfl, hidle, fun _ _ => rfl, fun _ _ => rfl, fun _ _ => rfl, ⟨rfl, rfl⟩, rfl, rfl, rfl⟩

theorem LoadKept.trans (h : LoadKept r s t) (k : LoadKept r t u) : LoadKept r s u where
  cfg := k.cfg.trans h.cfg
  phase := k.phase
  big q hq := (k.big q hq).trans (h.big q hq)
  banks q hq := (k.banks q hq).trans (h.banks q hq)
  vectors q hq := (k.vectors q hq).trans (h.vectors q hq)
  res := ⟨k.res.1.trans h.res.1, k.res.2.trans h.res.2⟩
  arg0 := k.arg0.trans h.arg0
  arg1 := k.arg1.trans h.arg1
  hostErr := k.hostErr.trans h.hostErr

/-- Writing one big register keeps the others. -/
theorem bigKept_set (s t : State) {v : Int} (h : t.b = s.b.set r.val v r.isLt) : BigKept [r] s t := by
  intro q hq
  have hkept := s.setBig_other v (show q ≠ r by simpa using hq)
  rwa [State.setBig_b, ← h] at hkept

/-! ### The accesses, in their order -/

/-- CLR with its wait leaves 0 in the register (R122, R131). -/
theorem run_clr (hidle : s.phase = .idle)
    (h : s.inputs = memWrite s.cfg 0x010 (encode (.clr r)) :: waitFor s.cfg 1 ++ rest) :
    ∃ t, core.run 3 s = .next t ∧ LoadKept r s t ∧ t.inputs = rest ∧ t.b[r] = 0 := by
  have hclr := run_command hidle rfl h
  have hpoll := step_read (s := (State.putBig (State.accept { s with inputs := memRead s.cfg 0x020 :: rest }
    (encode (.clr r))) r 0).succeed) .status rfl (.inl rfl)
  refine ⟨_, (run_add (n := 1) hclr).trans ((run_one _).trans hpoll), ?_, rfl, ?_⟩
  · exact ⟨rfl, rfl, bigKept_set s _ rfl, fun _ _ => rfl, fun _ _ => rfl, ⟨rfl, rfl⟩, rfl, rfl, rfl⟩
  · exact s.setBig_same r 0

/-- The window's place while `li` writes digits: register `r`, element `i`, and AINC (R124). -/
def WindowAt (r : BReg) (i : Nat) (s : State) : Prop := s.wsel = bigSelector r ∧ s.widx = BitVec.ofNat 32 i

/-- The selector of `li` survives WSEL's mask, and names SPACE 0, the register and AINC (R58, R124). -/
theorem bigSelector_fields : ∀ r : BReg, bigSelector r &&& wselMask = bigSelector r ∧ (bigSelector r).toNat % 8 = 0 ∧
    (bigSelector r).getLsbD 3 = true ∧ (bigSelector r).toNat / 2 ^ 8 % 16 = r.val := by decide

theorem WindowAt.place {i : Nat} (h : WindowAt r i s) : s.space = 0 ∧ r = s.windowReg := by
  obtain ⟨-, hspace, -, hreg⟩ := bigSelector_fields r
  rw [← h.1] at hspace hreg
  exact ⟨hspace, Fin.ext hreg.symm⟩

/-- The window set on digit 0 of the register (R58, R59). -/
theorem run_select (hidle : s.phase = .idle)
    (h : s.inputs = memWrite s.cfg 0x040 (bigSelector r) :: memWrite s.cfg 0x044 0#32 :: rest) :
    ∃ t, core.run 2 s = .next t ∧ LoadKept r s t ∧ t.inputs = rest ∧ t.b[r] = s.b[r] ∧ WindowAt r 0 t := by
  have hwsel := step_write .wsel h (.inl (not_busy_of_idle hidle))
  have hwidx := step_write
    (s := State.writeReg { s with inputs := memWrite s.cfg 0x044 0#32 :: rest } (bigSelector r) .wsel) .widx rfl
    (.inl (not_busy_of_idle hidle))
  refine ⟨_, (run_succ hwsel).trans ((run_one _).trans hwidx), ?_, rfl, rfl, (bigSelector_fields r).1, rfl⟩
  exact ⟨rfl, hidle, fun _ _ => rfl, fun _ _ => rfl, fun _ _ => rfl, ⟨rfl, rfl⟩, rfl, rfl, rfl⟩

/-- The lowest digits of a number, and one more (R10). -/
theorem withDigit_mod_digit (v i : Nat) : withDigit (v % radix ^ i) i (digit v i) = v % radix ^ (i + 1) := by
  rw [withDigit_eq, Nat.mod_mod, Nat.div_eq_of_lt (Nat.mod_lt _ (Nat.pow_pos radix_pos)), Nat.zero_div, Nat.mul_zero,
    Nat.add_zero, digit, Nat.mod_pow_succ]

/-- The write of digit `i` (R80, R86). -/
theorem step_writeDigit {v i : Nat} (hidle : s.phase = .idle) (hcap : i < s.cfg.cap) (hlt : i < 2 ^ 32)
    (hwin : WindowAt r i s) (hb : s.b[r] = (v % radix ^ i : Nat))
    (h : s.inputs = memWrite s.cfg 0x048 (BitVec.ofNat 32 (digit v i)) :: rest) :
    ∃ t, step s = .next t ∧ LoadKept r s t ∧ t.inputs = rest ∧ t.b[r] = (v % radix ^ (i + 1) : Nat) ∧
      WindowAt r (i + 1) t := by
  obtain ⟨hspace, rfl⟩ := hwin.place
  obtain ⟨hsel, hidx⟩ := hwin
  obtain ⟨-, -, hainc, -⟩ := bigSelector_fields s.windowReg
  have hindex : s.windowIndex = i := by
    rw [State.windowIndex, hidx, BitVec.toNat_ofNat, Nat.mod_eq_of_lt hlt]
  have hwritten : s.windowDigitWritten (BitVec.ofNat 32 (digit v i)) = (v % radix ^ (i + 1) : Nat) := by
    rw [State.windowDigitWritten, hb, if_neg (Int.natCast_nonneg _).not_gt, Int.natAbs_natCast, hindex,
      BitVec.toNat_ofNat, Nat.mod_eq_of_lt (show digit v i < 2 ^ 32 from digit_lt v i), withDigit_mod_digit]
  have hstep := step_write_wdata hidle h hspace (hindex.symm ▸ hcap)
  refine ⟨_, hstep, ?_, rfl, ?_, hsel, ?_⟩
  · exact ⟨rfl, hidle, bigKept_set s _ rfl, fun _ _ => rfl, fun _ _ => rfl, ⟨rfl, rfl⟩, rfl, rfl, rfl⟩
  · rw [← hwritten]
    exact s.setBig_same _ _
  · show steppedIndex s = _
    rw [steppedIndex, hsel, if_pos hainc, hidx, BitVec.ofNat_add]

/-- The digit writes of `li`: after digits `i` to `i + n - 1` the register holds the lowest `i + n` of them. -/
theorem run_digitWrites {v n i : Nat} (hidle : s.phase = .idle) (hcap : i + n ≤ s.cfg.cap) (hlt : s.cfg.cap ≤ 2 ^ 32)
    (hwin : WindowAt r i s) (hb : s.b[r] = (v % radix ^ i : Nat)) (h : s.inputs = digitWrites s.cfg v n i ++ rest) :
    ∃ t, core.run n s = .next t ∧ LoadKept r s t ∧ t.inputs = rest ∧ t.b[r] = (v % radix ^ (i + n) : Nat) ∧
      WindowAt r (i + n) t := by
  induction n generalizing s i with
  | zero => exact ⟨s, rfl, LoadKept.refl hidle, h, hb, hwin⟩
  | succ n ih =>
    obtain ⟨t, hstep, hkept, hin, hbt, hwint⟩ := step_writeDigit hidle (by omega) (by omega) hwin hb h
    obtain ⟨u, hrun, hkept', hrest⟩ := ih hkept.phase (by rw [hkept.cfg]; omega) (by rw [hkept.cfg]; exact hlt) hwint
      hbt (by rw [hin, hkept.cfg]; rfl)
    rw [Nat.add_assoc, Nat.add_comm 1 n] at hrest
    exact ⟨u, (run_succ hstep).trans hrun, hkept.trans hkept', hrest⟩

/-- A WMETA write in SPACE 0 writes the register's sign (R61). -/
theorem step_write_wmeta {w : Word} (hidle : s.phase = .idle) (hspace : s.space = 0) (h : WritesNext s 0x04C w rest) :
    step s = .next { s with
      inputs := rest
      b := s.b.set s.windowReg.val (s.windowSignWritten w) s.windowReg.isLt } := by
  have hwrite := writeMeta_register (s := { s with inputs := rest }) hspace w
  rw [step_write .wmeta h (.inl (not_busy_of_idle hidle)), State.writeReg, hwrite]
  rfl

/-- The write that makes the register negative (R61). -/
theorem step_writeSign {i : Nat} {v : Int} (hidle : s.phase = .idle) (hwin : WindowAt r i s) (hv : v < 0)
    (hb : s.b[r] = v.natAbs) (h : s.inputs = memWrite s.cfg 0x04C 0x80000000#32 :: rest) :
    ∃ t, step s = .next t ∧ LoadKept r s t ∧ t.inputs = rest ∧ t.b[r] = v := by
  obtain ⟨hspace, rfl⟩ := hwin.place
  have hwritten : s.windowSignWritten 0x80000000#32 = v := by
    rw [State.windowSignWritten, hb, if_pos (by decide)]
    omega
  refine ⟨_, step_write_wmeta hidle hspace h, ?_, rfl, (s.setBig_same _ _).trans hwritten⟩
  exact ⟨rfl, hidle, bigKept_set s _ rfl, fun _ _ => rfl, fun _ _ => rfl, ⟨rfl, rfl⟩, rfl, rfl, rfl⟩

/-- The sign of `li`, written last where the number is negative (R124). -/
theorem run_sign {i : Nat} {v : Int} (hidle : s.phase = .idle) (hwin : WindowAt r i s) (hb : s.b[r] = v.natAbs)
    (h : s.inputs = (if v < 0 then [memWrite s.cfg 0x04C 0x80000000#32] else []) ++ rest) :
    ∃ t, core.run (if v < 0 then 1 else 0) s = .next t ∧ LoadKept r s t ∧ t.inputs = rest ∧ t.b[r] = v := by
  by_cases hv : v < 0
  · simp only [if_pos hv] at h ⊢
    obtain ⟨t, hstep, ht⟩ := step_writeSign hidle hwin hv hb h
    exact ⟨t, (run_one s).trans hstep, ht⟩
  · simp only [if_neg hv] at h ⊢
    exact ⟨s, rfl, LoadKept.refl hidle, h, by omega⟩

end

theorem length_digitWrites (c : Config) (v n i : Nat) : (digitWrites c v n i).length = n := by
  induction n generalizing i with
  | zero => rfl
  | succ n ih => exact congrArg (· + 1) (ih (i + 1))

theorem length_loadLiteral (c : Config) (r : BReg) (v : Int) :
    (loadLiteral c r v).length = 3 + (2 + (ndig v.natAbs + if v < 0 then 1 else 0)) := by
  have hsign : (if v < 0 then [memWrite c 0x04C 0x80000000#32] else []).length = if v < 0 then 1 else 0 := by
    split <;> rfl
  simp only [loadLiteral, waitFor, List.length_append, List.length_cons, List.length_nil, length_digitWrites, hsign]
  omega

/-- Settles O25: CLR, the selection, the digits and the sign, one after another. -/
theorem loadLiteralLoads : Obligations.LoadLiteralLoads := by
  intro s r v rest hidle hvalid hfits h
  obtain ⟨hcap, hmax, -⟩ := hvalid
  have hdigits : ndig v.natAbs ≤ s.cfg.cap := (ndig_le_iff (by omega) _).mpr hfits
  rw [loadLiteral, List.append_assoc, List.append_assoc] at h
  obtain ⟨t₁, hrun₁, hkept₁, hin₁, hb₁⟩ := run_clr hidle h
  rw [← hkept₁.cfg] at hin₁ hcap hmax hdigits
  obtain ⟨t₂, hrun₂, hkept₂, hin₂, hb₂, hwin₂⟩ := run_select hkept₁.phase hin₁
  rw [← hkept₂.cfg] at hin₂ hcap hmax hdigits
  obtain ⟨t₃, hrun₃, hkept₃, hin₃, hb₃, hwin₃⟩ := run_digitWrites hkept₂.phase (by omega) (by omega) hwin₂
    (by rw [hb₂, hb₁, pow_zero, Nat.mod_one]; rfl) hin₂
  rw [Nat.zero_add, Nat.mod_eq_of_lt (lt_radix_pow_ndig _)] at hb₃
  rw [← hkept₃.cfg] at hin₃
  obtain ⟨t, hrun, hkept₄, hin, hb⟩ := run_sign hkept₃.phase hwin₃ hb₃ hin₃
  have hkept := ((hkept₁.trans hkept₂).trans hkept₃).trans hkept₄
  refine ⟨t, ?_, hb, hkept.big, hkept.banks, hkept.vectors, hkept.res, hkept.arg0, hkept.arg1, hkept.hostErr,
    hkept.phase, hin⟩
  rw [length_loadLiteral, run_add hrun₁, run_add hrun₂, run_add hrun₃, hrun]

end Sys2Proof.Machine
end

section
/-! PROOFS. The results and frames of the big-integer register commands (R130-R142), and of ADD, SUB, MUL and SQR
(R190-R193). -/

namespace Sys2Proof.Machine

/-! ### Ends by success -/

/-- The end by success of a state that differs from the command's first by results only (R317(a)). -/
theorem ResultsOnly.succeeded {s u : State} (frame : ResultsOnly s u) : Succeeded s u.succeed := by
  rw [frame]
  exact
    { host := ⟨rfl, rfl, rfl, rfl, rfl, rfl, rfl, rfl, rfl, rfl⟩, cancelPending := rfl, phase := rfl, done := rfl
      err := rfl, cancelled := rfl, faultCode := rfl, faultOpc := rfl }

/-- A command that writes RES and flags alone keeps the data (R315). -/
theorem dataKept_of_flagsAndRes {s u : State}
    (frame : u = { s with res0 := u.res0, res1 := u.res1, flags := u.flags }) :
    DataKept s u.succeed := by
  rw [frame]
  exact ⟨fun _ _ => rfl, fun _ _ => rfl, fun _ _ => rfl, rfl⟩

/-- The end with a big result is the exact value or OVERFLOW (R13, R312). -/
theorem exactOrOverflow_concludeBig (opc : Byte) (d : BReg) (v : Int) (s : State) :
    ExactOrOverflow opc d v s (s.concludeBig opc d v) := by
  rcases s.concludeBig_cases opc d v with ⟨hfits, heq⟩ | ⟨hlarge, heq⟩
  · exact ⟨fun _ => ⟨_, heq, s.putBig_succeed_spec d v⟩,
      fun hge => absurd ((s.fits_iff v).mp hfits) (Nat.not_lt.mpr hge)⟩
  · exact ⟨fun hlt => absurd ((s.fits_iff v).mpr hlt) (by simp [hlarge]),
      fun _ => ⟨_, heq, s.failWith_spec opc .overflow⟩⟩

/-! ### Register loads, predicates, comparison, sums and products -/

/-- Settles O33. -/
theorem registerLoads : Obligations.RegisterLoads := fun s d a =>
  ⟨⟨_, rfl, ResultsOnly.succeeded rfl, dataKept_of_flagsAndRes rfl, ⟨rfl, rfl⟩, rfl⟩,
    ⟨_, rfl, s.putBig_succeed_spec d 0⟩,
    ⟨_, rfl, s.putBig_succeed_spec d 1⟩,
    ⟨_, rfl, s.putBig_succeed_spec d (s.opBig a)⟩,
    ⟨_, rfl, s.putBig_succeed_spec d s.arg64⟩⟩

/-- RES after a write of the low and the high half of `m`'s low 64 bits (R135). -/
theorem resHolds_of_halves {t : State} {m : Nat} (h0 : t.res0 = BitVec.ofNat 32 (m % 2 ^ 32))
    (h1 : t.res1 = BitVec.ofNat 32 (m / 2 ^ 32 % 2 ^ 32)) : ResHolds t (m % 2 ^ 64) := by
  unfold ResHolds
  rw [h0, h1, BitVec.toNat_ofNat, BitVec.toNat_ofNat]
  omega

/-- Settles O34. -/
theorem predicatesAndCompare : Obligations.PredicatesAndCompare := by
  intro s a b
  refine ⟨⟨_, rfl, ResultsOnly.succeeded rfl, dataKept_of_flagsAndRes rfl, Flags.primary_spec _ _, ?_⟩,
    ⟨_, rfl, ResultsOnly.succeeded rfl, dataKept_of_flagsAndRes rfl, ⟨rfl, rfl⟩, Flags.primary_spec _ _⟩,
    ⟨_, rfl, ResultsOnly.succeeded rfl, dataKept_of_flagsAndRes rfl, ⟨rfl, rfl⟩, ?_, ?_, rfl⟩⟩
  · exact resHolds_of_halves rfl rfl
  · exact decide_eq_true_iff
  · exact decide_eq_true_iff

/-- Settles O37: each command is the end with its big result. -/
theorem exactSumsAndProducts : Obligations.ExactSumsAndProducts := by
  rintro s d a b n rfl
  rw [pow_two]
  refine ⟨?_, ?_, ?_, ?_, ?_, ?_⟩ <;> exact exactOrOverflow_concludeBig ..

/-! ### Shifts -/

theorem withSignOf_neg_iff (v : Int) (m : Nat) : withSignOf v m < 0 ↔ v < 0 ∧ m ≠ 0 := by
  unfold withSignOf
  split <;> omega

/-- The bit-length test of SHL is the test of R138. -/
theorem shiftTooFar_iff (s : State) (v : Int) (c : Nat) :
    s.shiftTooFar v c = true ↔ radix ^ s.cfg.cap ≤ v.natAbs * 2 ^ c := by
  rw [State.shiftTooFar, decide_eq_true_iff]
  constructor
  · rintro ⟨hv, hbits⟩
    have hm : v.natAbs ≠ 0 := Int.natAbs_ne_zero.mpr hv
    calc radix ^ s.cfg.cap = 2 ^ (32 * s.cfg.cap) := radix_pow _
      _ ≤ 2 ^ (bitlen v.natAbs - 1 + c) := Nat.pow_le_pow_right (by decide) (by omega)
      _ = 2 ^ (bitlen v.natAbs - 1) * 2 ^ c := Nat.pow_add 2 _ _
      _ ≤ v.natAbs * 2 ^ c := Nat.mul_le_mul_right _ (two_pow_bitlen_le hm)
  · intro hlarge
    constructor
    · rintro rfl
      rw [Int.natAbs_zero, Nat.zero_mul] at hlarge
      exact absurd hlarge (Nat.not_le.mpr (Nat.pow_pos radix_pos))
    · by_contra hbits
      exact absurd (shifted_lt_of_bitlen (Nat.not_lt.mp hbits)) (Nat.not_lt.mpr hlarge)

/-- SHL without its arm for 0, which shifts to 0 as any value does. -/
theorem execShl_eq (d a : BReg) (s : State) :
    execShl d a s = if s.shiftTooFar (s.opBig a) s.arg32 then .next (s.failWith 0x08#8 .overflow)
      else .next (s.putBig d (withSignOf (s.opBig a) ((s.opBig a).natAbs * 2 ^ s.arg32))).succeed := by
  unfold execShl
  by_cases hzero : s.opBig a = 0
  · simp [hzero, withSignOf]
  · rw [if_neg hzero]

/-- Settles O35. -/
theorem shlResult : Obligations.ShlResult := by
  intro s d a
  have hexec := execShl_eq d a s
  have htest := shiftTooFar_iff s (s.opBig a) s.arg32
  constructor
  · intro hfits
    rw [if_neg (mt htest.mp (Nat.not_le.mpr hfits))] at hexec
    refine ⟨_, _, hexec, s.putBig_succeed_spec d _, natAbs_withSignOf _ _, ?_⟩
    rw [withSignOf_neg_iff, and_iff_left_iff_imp]
    exact fun hneg => Nat.mul_ne_zero (by omega) (by positivity)
  · intro hlarge
    rw [if_pos (htest.mpr hlarge)] at hexec
    exact ⟨_, hexec, s.failWith_spec 0x08#8 .overflow⟩

/-- Settles O36. -/
theorem shrResult : Obligations.ShrResult := by
  intro s d a
  have habs := natAbs_withSignOf (s.opBig a) ((s.opBig a).natAbs >>> s.arg32)
  refine ⟨_, _, rfl, s.putBig_succeed_spec d _, habs.trans (Nat.shiftRight_eq_div_pow _ _), ?_⟩
  rw [withSignOf_neg_iff]
  omega

/-! ### The drawn number -/

/-- The digits of the number made of `ws` are the words. -/
theorem digit_ofWords (ws : List Word) {j : Nat} (hj : j < ws.length) : digit (ofWords ws) j = ws[j].toNat := by
  induction ws generalizing j with
  | nil => simp at hj
  | cons w ws ih =>
    rw [ofWords, digit_lowDigit_add w.isLt]
    cases j with
    | zero => rfl
    | succ j => exact ih (Nat.lt_of_succ_lt_succ hj)

/-- The two forcings of R142, word by word. -/
theorem getElem_forceOddFull (ws : List Word) {j : Nat} (hj : j < (forceOddFull ws).length) :
    (forceOddFull ws)[j] = ws[j]'(length_forceOddFull ws ▸ hj) ||| (if j = 0 then 1#32 else 0#32) |||
      (if j = ws.length - 1 then 0x80000000#32 else 0#32) := by
  simp only [forceOddFull, List.getElem_modify, eq_comm (b := j)]
  split <;> split <;> simp

/-- The number RNDODD makes of `n` drawn words (R142). -/
def State.drawnOdd (s : State) (n : Nat) : Nat := ofWords (forceOddFull (s.drawWords n))

section
variable (s : State) {n : Nat}

theorem State.drawnOdd_lt : s.drawnOdd n < 2 ^ (32 * n) := by
  have hlt := ofWords_lt (forceOddFull (s.drawWords n))
  rwa [length_forceOddFull, length_drawWords, radix_pow] at hlt

theorem State.digit_drawnOdd {j : Nat} (hj : j < n) : digit (s.drawnOdd n) j =
    (Config.draw32 (s.draws + j) ||| (if j = 0 then 1#32 else 0#32) |||
      (if j = n - 1 then 0x80000000#32 else 0#32)).toNat := by
  have hlength : (forceOddFull (s.drawWords n)).length = n := (length_forceOddFull _).trans (length_drawWords s n)
  rw [State.drawnOdd, digit_ofWords _ (by omega), getElem_forceOddFull]
  simp [State.drawWords]

/-- Bit 0 of the first word is forced. -/
theorem State.drawnOdd_mod_two (hn : 1 ≤ n) : s.drawnOdd n % 2 = 1 := by
  have hdigit := s.digit_drawnOdd (j := 0) hn
  have hodd : digit (s.drawnOdd n) 0 % 2 = 1 := by
    rw [hdigit, BitVec.toNat_or, BitVec.toNat_or, Nat.or_mod_two_eq_one, Nat.or_mod_two_eq_one]
    exact .inl (.inr rfl)
  rwa [digit, pow_zero, Nat.div_one, radix_eq, Nat.mod_mod_of_dvd _ (by decide)] at hodd

/-- Bit 31 of the last word is forced, so the number has all of its `n` digits; odd, it is not the least such number. -/
theorem State.two_pow_lt_drawnOdd (hn : 1 ≤ n) : 2 ^ (32 * n - 1) < s.drawnOdd n := by
  have hdigit : 2 ^ 31 ≤ digit (s.drawnOdd n) (n - 1) := by
    rw [s.digit_drawnOdd (by omega), if_pos rfl, BitVec.toNat_or]
    exact Nat.right_le_or
  have hle : 2 ^ (32 * n - 1) ≤ s.drawnOdd n := by
    calc 2 ^ (32 * n - 1) = 2 ^ 31 * radix ^ (n - 1) := by rw [radix_pow, ← Nat.pow_add]; congr 1; omega
      _ ≤ s.drawnOdd n / radix ^ (n - 1) * radix ^ (n - 1) :=
        Nat.mul_le_mul_right _ (hdigit.trans (Nat.mod_le _ _))
      _ ≤ s.drawnOdd n := Nat.div_mul_le_self _ _
  have heven : 2 ∣ 2 ^ (32 * n - 1) := dvd_pow_self 2 (by omega)
  have hodd := s.drawnOdd_mod_two hn
  omega

end

/-- Settles O38. -/
theorem rndoddResult : Obligations.RndoddResult := by
  rintro s d n rfl
  constructor
  · intro (hbad : s.arg32 = 0 ∨ s.cfg.cap < s.arg32)
    have hfault : firstFault [(decide (s.arg32 = 0 ∨ s.cfg.cap < s.arg32), .invalidArgument)] =
        some .invalidArgument := by
      rw [decide_eq_true hbad, firstFault_true]
    exact ⟨_, State.guarded_fault hfault, s.failWith_spec 0x0C#8 .invalidArgument⟩
  · intro (hn : 1 ≤ s.arg32) (hcap : s.arg32 ≤ s.cfg.cap)
    have hpass : firstFault [(decide (s.arg32 = 0 ∨ s.cfg.cap < s.arg32), .invalidArgument)] = none := by
      rw [decide_eq_false (by omega), firstFault_false, firstFault_nil]
    have hwrites := s.putBig_succeed_spec d (s.drawnOdd s.arg32)
    exact ⟨_, s.drawnOdd s.arg32, State.guarded_pass hpass, ResultsOnly.succeeded rfl, hwrites.result, hwrites.big,
      hwrites.banks, hwrites.vectors, hwrites.res, hwrites.flags, rfl, s.drawnOdd_mod_two hn, s.two_pow_lt_drawnOdd hn,
      s.drawnOdd_lt, fun _ hj => s.digit_drawnOdd hj⟩

end Sys2Proof.Machine
end

section
/-! PROOFS. The division commands DIV, SDIV, REM32 and REM64 (R160-R163), and the exactness of the divider's datapath
(R165-R177). -/

namespace Sys2Proof.Machine

/-! ### The check phase -/

section
variable {s : State} {opc : Byte} {x d : Int} {k : Result}

/-- A zero divisor is the first fault (R160-R163). -/
theorem guarded_divisionChecks_zero (hd : d = 0) :
    ∃ t, s.guarded opc (divisionChecks x d) k = .next t ∧ Faulted opc .divideByZero s t := by
  have hfault : firstFault (divisionChecks x d) = some .divideByZero := by
    rw [divisionChecks, decide_eq_true hd, firstFault_true]
  exact ⟨_, State.guarded_fault hfault, s.failWith_spec opc .divideByZero⟩

/-- A negative operand is the second fault (R160-R163). -/
theorem guarded_divisionChecks_negative (hd : d ≠ 0) (hneg : x < 0 ∨ d < 0) :
    ∃ t, s.guarded opc (divisionChecks x d) k = .next t ∧ Faulted opc .invalidArgument s t := by
  have hfault : firstFault (divisionChecks x d) = some .invalidArgument := by
    rw [divisionChecks, decide_eq_false hd, firstFault_false, decide_eq_true hneg, firstFault_true]
  exact ⟨_, State.guarded_fault hfault, s.failWith_spec opc .invalidArgument⟩

theorem guarded_divisionChecks_pass (hx : 0 ≤ x) (hd : 0 < d) : s.guarded opc (divisionChecks x d) k = k := by
  apply State.guarded_pass
  rw [divisionChecks, decide_eq_false hd.ne', firstFault_false, decide_eq_false (by omega), firstFault_false,
    firstFault_nil]

end

/-! ### DIV -/

/-- Two register writes keep every other register. -/
theorem bigKept_setBig_setBig (s : State) (d c : BReg) (q r : Int) :
    BigKept [d, c] s ((s.setBig d q).setBig c r) := by
  intro i hi
  obtain ⟨hd, hc⟩ : i ≠ d ∧ i ≠ c := by simpa using hi
  rw [State.setBig_other _ _ hc, State.setBig_other _ _ hd]

/-- Settles O39. -/
theorem divResult : Obligations.DivResult := by
  intro s d a b c
  refine ⟨guarded_divisionChecks_zero, guarded_divisionChecks_negative, fun hdc ha hb => ?_⟩
  refine ⟨_, s.opBig a / s.opBig b, s.opBig a % s.opBig b, guarded_divisionChecks_pass ha hb,
    ResultsOnly.succeeded rfl, ?_, State.setBig_same _ c _, (Int.ediv_mul_add_emod _ _).symm, Int.emod_nonneg _ hb.ne',
    Int.emod_lt_of_pos _ hb, s.flags.primary_spec _, bigKept_setBig_setBig s d c _ _, fun _ _ => rfl, fun _ _ => rfl,
    ⟨rfl, rfl⟩, rfl⟩
  exact (State.setBig_other _ _ hdc).trans (s.setBig_same d _)

/-! ### SDIV, REM32 and REM64 -/

/-- RES holds a remainder below `2^64` (R161-R163). -/
theorem resHolds_putRemainder (s : State) {r : Nat} (hr : r < 2 ^ 64) : ResHolds (s.putRemainder r) r := by
  refine ⟨hr, ?_, ?_⟩
  · rw [State.putRemainder_res0, Int.toNat_natCast, BitVec.toNat_ofNat, Nat.mod_mod]
  · rw [State.putRemainder_res1, Int.toNat_natCast, BitVec.toNat_ofNat, Nat.mod_eq_of_lt (by omega)]

theorem emod_eq_toNat_mod {x : Int} (hx : 0 ≤ x) (m : Nat) : x % m = (x.toNat % m : Nat) := by
  rw [Int.natCast_emod, Int.toNat_of_nonneg hx]

theorem State.arg32_lt_two_pow_64 (s : State) : s.arg32 < 2 ^ 64 := s.arg0.isLt.trans (by decide)

theorem State.arg64_lt (s : State) : s.arg64 < 2 ^ 64 := by
  have h0 := s.arg0.isLt
  have h1 := s.arg1.isLt
  unfold State.arg64
  omega

/-- The remainder commands, for an `m` of at most 64 bits: RES and flags from the remainder, and nothing else written
(R162, R163). -/
theorem guarded_putRemainder_spec {s : State} {opc : Byte} {x : Int} {m : Nat} (hm : m ≠ 0) (hlt : m < 2 ^ 64)
    (hx : 0 ≤ x) :
    ∃ t, s.guarded opc (divisionChecks x m) (.next (s.putRemainder (x % m)).succeed) = .next t ∧ Succeeded s t ∧
      DataKept s t ∧ ResHolds t (x.toNat % m) ∧ FlagsFrom (x.toNat % m : Nat) s.flags t.flags := by
  have hpos : 0 < m := Nat.pos_of_ne_zero hm
  rw [guarded_divisionChecks_pass hx (by omega), emod_eq_toNat_mod hx]
  exact ⟨_, rfl, ResultsOnly.succeeded rfl, dataKept_of_flagsAndRes rfl,
    resHolds_putRemainder s ((Nat.mod_lt _ hpos).trans hlt), s.flags.primary_spec _⟩

/-- SDIV past its checks: the quotient in `b[d]`, the remainder in RES and in the flags (R161). -/
theorem execSdiv_spec {s : State} (d : BReg) {a : BReg} (hm : s.arg32 ≠ 0) (ha : 0 ≤ s.opBig a) :
    ∃ (t : State) (q : Int) (r : Nat), execSdiv d a s = .next t ∧ Succeeded s t ∧ t.b[d] = q ∧
      s.opBig a = q * s.arg32 + r ∧ r < s.arg32 ∧ ResHolds t r ∧ FlagsFrom r s.flags t.flags ∧ BigKept [d] s t ∧
      BanksKept [] s t ∧ VectorsKept [] s t ∧ t.draws = s.draws := by
  have hpos : 0 < s.arg32 := Nat.pos_of_ne_zero hm
  have hrem : (s.opBig a).toNat % s.arg32 < s.arg32 := Nat.mod_lt _ hpos
  have h64 := s.arg32_lt_two_pow_64
  have hdiv := Int.ediv_mul_add_emod (s.opBig a) s.arg32
  rw [emod_eq_toNat_mod ha] at hdiv
  rw [execSdiv, guarded_divisionChecks_pass ha (by omega), emod_eq_toNat_mod ha]
  exact ⟨_, s.opBig a / s.arg32, _, rfl, ResultsOnly.succeeded rfl, s.setBig_same d _, hdiv.symm, hrem,
    resHolds_putRemainder (s.setBig d (s.opBig a / s.arg32)) (hrem.trans h64), s.flags.primary_spec _,
    bigKept_set s _ rfl, fun _ _ => rfl, fun _ _ => rfl, rfl⟩

/-- Settles O40. -/
theorem shortDivisionResults : Obligations.ShortDivisionResults := by
  rintro s d a m n rfl rfl
  refine ⟨fun hm => ⟨?_, ?_⟩, fun hn => ?_, fun hm ha => ⟨?_, ?_⟩, fun hn ha => ?_, fun hm ha => ⟨?_, ?_⟩,
    fun hn ha => ?_⟩
  · exact guarded_divisionChecks_zero (Int.natCast_eq_zero.mpr hm)
  · exact guarded_divisionChecks_zero (Int.natCast_eq_zero.mpr hm)
  · exact guarded_divisionChecks_zero (Int.natCast_eq_zero.mpr hn)
  · exact guarded_divisionChecks_negative (Int.natCast_ne_zero.mpr hm) (.inl ha)
  · exact guarded_divisionChecks_negative (Int.natCast_ne_zero.mpr hm) (.inl ha)
  · exact guarded_divisionChecks_negative (Int.natCast_ne_zero.mpr hn) (.inl ha)
  · exact execSdiv_spec d hm ha
  · exact guarded_putRemainder_spec hm s.arg32_lt_two_pow_64 ha
  · exact guarded_putRemainder_spec hn s.arg64_lt ha

/-! ### The turns of the digit loops

Each loop is unfolded on both sides before they are compared. Otherwise the kernel compares the remainders the two sides
pass on, and unfolds the products by `B = 2^32` in them. -/

theorem shortLoop_succ (a d i r q : Nat) : shortLoop a d (i + 1) r q =
    shortLoop a d i ((r * radix + digit a i) % d) (q + (r * radix + digit a i) / d * radix ^ i) := by
  delta shortLoop
  rfl

theorem remainderLoop_succ (a d i r : Nat) : remainderLoop a d (i + 1) r =
    remainderLoop a d i ((r * radix + digit a i) % d) := by
  delta remainderLoop
  rfl

theorem quotientLoop_succ (d nb j r q : Nat) : quotientLoop d nb (j + 1) r q =
    quotientLoop d nb j (r - multiplyTop d (correctDigit d r j (trialDigit d nb r j)) j)
      (q + correctDigit d r j (trialDigit d nb r j) * radix ^ j) := by
  delta quotientLoop
  rfl

/-! ### Short division and the remainder-only fold -/

/-- The lowest `i + 1` digits of a number are digit `i` and the lowest `i` (R10). -/
theorem mod_radix_pow_succ (x i : Nat) : x % radix ^ (i + 1) = digit x i * radix ^ i + x % radix ^ i := by
  rw [Nat.mod_pow_succ, digit, Nat.mul_comm, Nat.add_comm]

/-- The pass over the lowest `n` digits divides the number whose higher part is the remainder so far (R175). -/
theorem shortLoop_eq (a : Nat) {d n r : Nat} (hr : r < d) (q : Nat) :
    shortLoop a d n r q = (q + (r * radix ^ n + a % radix ^ n) / d, (r * radix ^ n + a % radix ^ n) % d) := by
  induction n generalizing r q with
  | zero =>
    rw [pow_zero, Nat.mod_one, Nat.mul_one, Nat.add_zero, Nat.div_eq_of_lt hr, Nat.mod_eq_of_lt hr]
    rfl
  | succ i ih =>
    have hsplit : r * radix ^ (i + 1) + a % radix ^ (i + 1) =
        d * ((r * radix + digit a i) / d * radix ^ i) +
          ((r * radix + digit a i) % d * radix ^ i + a % radix ^ i) := by
      rw [← Nat.add_assoc, ← Nat.mul_assoc, ← Nat.add_mul, Nat.div_add_mod, mod_radix_pow_succ]
      ring
    have hd : 0 < d := Nat.zero_lt_of_lt hr
    rw [shortLoop_succ, ih (Nat.mod_lt _ hd), hsplit, Nat.mul_add_div hd, Nat.mul_add_mod, Nat.add_assoc]

/-- Short division is exact (R175). -/
theorem shortDivide_eq (a : Nat) {d : Nat} (hd : 0 < d) : shortDivide a d = (a / d, a % d) := by
  rw [shortDivide, shortLoop_eq a hd, Nat.mod_eq_of_lt (lt_radix_pow_ndig a), Nat.zero_mul, Nat.zero_add, Nat.zero_add]

/-- The remainder-only fold is short division without the quotient (R176). -/
theorem remainderLoop_eq_shortLoop (a d n r q : Nat) : remainderLoop a d n r = (shortLoop a d n r q).2 := by
  induction n generalizing r q with
  | zero => rfl
  | succ i ih =>
    rw [remainderLoop_succ, shortLoop_succ]
    exact ih _ _

theorem remainderOnly_eq (a : Nat) {d : Nat} (hd : 0 < d) : remainderOnly a d = a % d := by
  unfold remainderOnly
  split
  · rfl
  · rw [remainderLoop_eq_shortLoop a d _ 0 0]
    exact congrArg Prod.snd (shortDivide_eq a hd)

/-! ### One digit of long division -/

/-- The top digit of `k + 1` is the whole quotient by its place (R10). -/
theorem digit_eq_div {x k : Nat} (hx : x < radix ^ (k + 1)) : digit x k = x / radix ^ k :=
  Nat.mod_eq_of_lt (Nat.div_lt_of_lt_mul hx)

/-- `multiplyTop` compares a digit with the quotient of `r` at position `j` (R174). -/
theorem multiplyTop_le_iff {d j : Nat} (hd : 0 < d) (q r : Nat) :
    multiplyTop d q j ≤ r ↔ q ≤ r / (d * radix ^ j) := by
  rw [Nat.le_div_iff_mul_le (Nat.mul_pos hd (Nat.pow_pos radix_pos)), multiplyTop, Nat.mul_right_comm, Nat.mul_comm q]

/-- The binary search finds the quotient from a start not above it and less than `2^n` below it (R171). -/
theorem searchDigit_eq {d r j : Nat} (hd : 0 < d) {n q : Nat} (hlow : q ≤ r / (d * radix ^ j))
    (hhigh : r / (d * radix ^ j) < q + 2 ^ n) : searchDigit d r j n q = r / (d * radix ^ j) := by
  induction n generalizing q with
  | zero => exact Nat.le_antisymm hlow (Nat.lt_succ_iff.mp hhigh)
  | succ n ih =>
    rw [Nat.pow_succ] at hhigh
    unfold searchDigit
    split
    · next hkeep => exact ih ((multiplyTop_le_iff hd _ _).mp hkeep) (by omega)
    · next hdrop =>
      rw [multiplyTop_le_iff hd] at hdrop
      exact ih hlow (by omega)

/-- The correction finds the quotient digit from any trial digit not below it (R169-R171). -/
theorem correctDigit_eq {d r j qhat : Nat} (hd : 0 < d) (hdigit : r / (d * radix ^ j) < radix)
    (htrial : r / (d * radix ^ j) ≤ qhat) : correctDigit d r j qhat = r / (d * radix ^ j) := by
  unfold correctDigit
  simp only [multiplyTop_le_iff hd]
  split
  · omega
  · split
    · omega
    · exact searchDigit_eq hd (Nat.zero_le _) (by rwa [Nat.zero_add])

/-- The quotient of a remainder below `d·B^(j+1)` at position `j` is a digit (R168). -/
theorem div_lt_radix {d r j : Nat} (hr : r < d * radix ^ (j + 1)) : r / (d * radix ^ j) < radix := by
  apply Nat.div_lt_of_lt_mul
  rwa [Nat.mul_assoc, ← Nat.pow_succ]

/-- The trial digit is never too low: its dividend is the whole of `r` from position `j + nb - 1` up, and the leading
digit of `d` is at most `d` without its lower digits (R168, R172). -/
theorem div_le_trialDigit {d nb r j : Nat} (hnb : 1 ≤ nb) (hlow : radix ^ (nb - 1) ≤ d) (hhigh : d < radix ^ nb)
    (hr : r < d * radix ^ (j + 1)) : r / (d * radix ^ j) ≤ trialDigit d nb r j := by
  obtain ⟨k, rfl⟩ : ∃ k, nb = k + 1 := ⟨nb - 1, by omega⟩
  have hfits : r < radix ^ (j + k + 1 + 1) := by
    calc r < d * radix ^ (j + 1) := hr
      _ ≤ radix ^ (k + 1) * radix ^ (j + 1) := Nat.mul_le_mul_right _ hhigh.le
      _ = radix ^ (j + k + 1 + 1) := by ring
  have htop : digit r (j + k + 1) * radix + digit r (j + k) = r / radix ^ (j + k) := by
    rw [digit_eq_div hfits, Nat.pow_succ, ← Nat.div_div_eq_div_mul, digit, Nat.div_add_mod']
  have hlead_pos : 0 < d / radix ^ k := Nat.div_pos hlow (Nat.pow_pos radix_pos)
  refine Nat.le_min.mpr ⟨?_, Nat.le_sub_one_of_lt (div_lt_radix hr)⟩
  calc r / (d * radix ^ j) ≤ r / (radix ^ (j + k) * (d / radix ^ k)) := by
        refine Nat.div_le_div_left ?_ (Nat.mul_pos (Nat.pow_pos radix_pos) hlead_pos)
        rw [Nat.pow_add, Nat.mul_assoc, Nat.mul_comm d]
        exact Nat.mul_le_mul_left _ (Nat.mul_div_le d _)
    _ = (digit r (j + k + 1) * radix + digit r (j + k)) / digit d k := by
        rw [digit_eq_div hhigh, htop, Nat.div_div_eq_div_mul]

/-! ### Long division -/

/-- The loop over the positions below `n` adds the quotient of a remainder below `d·B^n` (R168, R172). -/
theorem quotientLoop_eq {d nb : Nat} (hnb : 1 ≤ nb) (hlow : radix ^ (nb - 1) ≤ d) (hhigh : d < radix ^ nb)
    {n r q : Nat} (hr : r < d * radix ^ n) : quotientLoop d nb n r q = q + r / d := by
  have hd : 0 < d := (Nat.pow_pos radix_pos).trans_le hlow
  induction n generalizing r q with
  | zero =>
    rw [pow_zero, Nat.mul_one] at hr
    rw [Nat.div_eq_of_lt hr]
    rfl
  | succ j ih =>
    have hdigit := correctDigit_eq hd (div_lt_radix hr) (div_le_trialDigit hnb hlow hhigh hr)
    have hrest : r - multiplyTop d (r / (d * radix ^ j)) j = r % (d * radix ^ j) := by
      rw [multiplyTop, Nat.mul_right_comm, Nat.mod_eq_sub_mul_div]
    have hquot : r / d = r / (d * radix ^ j) * radix ^ j + r % (d * radix ^ j) / d := by
      conv_lhs => rw [← Nat.div_add_mod r (d * radix ^ j), Nat.mul_assoc, Nat.mul_add_div hd, Nat.mul_comm (radix ^ j)]
    have hrest_lt : r % (d * radix ^ j) < d * radix ^ j := Nat.mod_lt _ (Nat.mul_pos hd (Nat.pow_pos radix_pos))
    rw [quotientLoop_succ, hdigit, hrest, ih hrest_lt, hquot, Nat.add_assoc]

/-- The leading position is high enough for the whole quotient (R166). -/
theorem lt_mul_radix_pow_leadingPosition {a d : Nat} (hd : 0 < d) (hda : d ≤ a) :
    a < d * radix ^ (leadingPosition a d + 1) := by
  unfold leadingPosition multiplyTopOne
  split
  · next hprobe =>
    have hpos : ndig a - ndig d ≠ 0 := fun hzero => by
      rw [hzero, Nat.pow_zero, Nat.mul_one] at hprobe
      omega
    rwa [Nat.sub_add_cancel (Nat.pos_of_ne_zero hpos)]
  · calc a < radix ^ ndig a := lt_radix_pow_ndig a
      _ ≤ radix ^ (ndig d - 1 + (ndig a - ndig d + 1)) := Nat.pow_le_pow_right radix_pos (by have := ndig_pos d; omega)
      _ = radix ^ (ndig d - 1) * radix ^ (ndig a - ndig d + 1) := Nat.pow_add _ _ _
      _ ≤ d * radix ^ (ndig a - ndig d + 1) := Nat.mul_le_mul_right _ (radix_pow_le_of_ndig hd.ne')

/-- The number of bits of a digit is at most 32 (R9). -/
theorem bitlen_le_of_lt_radix {v : Nat} (hv : v < radix) : bitlen v ≤ 32 := by
  by_cases hzero : v = 0
  · simp [hzero, bitlen]
  · exact not_lt.mp fun hlong => absurd ((lt_bitlen_iff hzero 32).mp hlong) (not_le.mpr hv)

/-- The normalized divisor has no more digits than the divisor (R167). -/
theorem normalized_lt (d : Nat) : d * 2 ^ leadingZeros (digit d (ndig d - 1)) < radix ^ ndig d := by
  obtain ⟨k, hk⟩ : ∃ k, ndig d = k + 1 := ⟨ndig d - 1, by have := ndig_pos d; omega⟩
  have hd : d < radix ^ (k + 1) := hk ▸ lt_radix_pow_ndig d
  rw [hk, Nat.add_sub_cancel]
  have hbits := bitlen_le_of_lt_radix (digit_lt d k)
  have hbound : d < 2 ^ bitlen (digit d k) * radix ^ k :=
    (Nat.div_lt_iff_lt_mul (Nat.pow_pos radix_pos)).mp (digit_eq_div hd ▸ lt_two_pow_bitlen _)
  calc d * 2 ^ leadingZeros (digit d k)
      < 2 ^ bitlen (digit d k) * radix ^ k * 2 ^ leadingZeros (digit d k) :=
        Nat.mul_lt_mul_of_pos_right hbound (by positivity)
    _ = radix * radix ^ k := by
        rw [Nat.mul_right_comm, ← Nat.pow_add, leadingZeros, Nat.add_sub_cancel' hbits, radix_eq]
    _ = radix ^ (k + 1) := (Nat.pow_succ' ..).symm

/-- The loop on the normalized operands finds the quotient of the operands (R167, R168). -/
theorem longQuotient_eq {a d : Nat} (hd : 0 < d) (hda : d ≤ a) : longQuotient a d = a / d := by
  have hscale : 0 < 2 ^ leadingZeros (digit d (ndig d - 1)) := by positivity
  have hrange : a * 2 ^ leadingZeros (digit d (ndig d - 1)) <
      d * 2 ^ leadingZeros (digit d (ndig d - 1)) * radix ^ (leadingPosition a d + 1) := by
    rw [Nat.mul_right_comm]
    exact Nat.mul_lt_mul_of_pos_right (lt_mul_radix_pow_leadingPosition hd hda) hscale
  rw [longQuotient, quotientLoop_eq (ndig_pos d) ((radix_pow_le_of_ndig hd.ne').trans (Nat.le_mul_of_pos_right _ hscale))
    (normalized_lt d) hrange, Nat.zero_add, Nat.mul_div_mul_right _ _ hscale]

/-- Long division is exact (R173). -/
theorem longDivide_eq {a d : Nat} (hd : 0 < d) (hda : d ≤ a) : longDivide a d = (a / d, a % d) := by
  rw [longDivide, longQuotient_eq hd hda, Nat.mod_eq_sub_div_mul]

/-- Every case of the dispatch is exact (R165). -/
theorem datapathDivide_eq (a : Nat) {d : Nat} (hd : 0 < d) : datapathDivide a d = (a / d, a % d) := by
  unfold datapathDivide
  split
  · rfl
  · split
    · next hlt => rw [Nat.div_eq_of_lt hlt, Nat.mod_eq_of_lt hlt]
    · next hge =>
      split
      · next heq => rw [heq, Nat.div_self hd, Nat.mod_self]
      · split
        · exact shortDivide_eq a hd
        · exact longDivide_eq hd (not_lt.mp hge)

/-- Settles O59. -/
theorem dividerComputesDivision : Obligations.DividerComputesDivision := fun a _ hd =>
  ⟨datapathDivide_eq a hd, shortDivide_eq a hd, remainderOnly_eq a hd, fun _ hda => longDivide_eq hd hda.le⟩

end Sys2Proof.Machine
end

section
/-! PROOFS. The number-theory commands GCD, INV, INVSE, SMALLFACT and ISQRT (R200-R204). -/

namespace Sys2Proof.Machine

/-! ### The check phase -/

section
variable {s : State} {opc : Byte} {c : FaultCode} {checks : List (Bool × FaultCode)} {k : Result}

/-- Where every check names the same fault, any check that holds ends the command with it (R312). -/
theorem guarded_oneCode (hcode : ∀ x ∈ checks, x.2 = c) (hholds : ∃ x ∈ checks, x.1 = true) :
    ∃ t, s.guarded opc checks k = .next t ∧ Faulted opc c s t := by
  rcases s.guarded_cases opc checks k with ⟨c', hfault, heq⟩ | ⟨hpass, -⟩
  · obtain rfl : c' = c := hcode _ (firstFault_mem hfault)
    exact ⟨_, heq, s.failWith_spec opc c'⟩
  · obtain ⟨x, hx, htrue⟩ := hholds
    exact absurd ((firstFault_eq_none checks).mp hpass x hx) (by simp [htrue])

theorem guarded_noCheck (hnone : ∀ x ∈ checks, x.1 = false) : s.guarded opc checks k = k :=
  State.guarded_pass ((firstFault_eq_none checks).mpr hnone)

end

/-! ### GCD -/

theorem gcd_toNat {x y : Int} (hx : 0 ≤ x) (hy : 0 ≤ y) : Nat.gcd x.toNat y.toNat = Int.gcd x y := by
  lift x to Nat using hx
  lift y to Nat using hy
  exact (Int.gcd_natCast_natCast x y).symm

/-- Settles O41. -/
theorem gcdResult : Obligations.GcdResult := by
  intro s d a b
  constructor
  · intro hbad
    exact guarded_oneCode (by simp [gcdChecks]) (by simp [gcdChecks]; omega)
  · intro ha hb
    have hpass : ∀ x ∈ gcdChecks (s.opBig a) (s.opBig b), x.1 = false := by simp [gcdChecks]; omega
    have hgcd := gcd_toNat ha.le hb.le
    have hpos : 0 < Int.gcd (s.opBig a) (s.opBig b) := Int.gcd_pos_of_ne_zero_left _ ha.ne'
    refine ⟨_, _, guarded_noCheck hpass, s.putBig_succeed_spec d _, ?_⟩
    rw [hgcd]
    exact ⟨by omega, Int.gcd_dvd_left .., Int.gcd_dvd_right .., fun _ => Int.dvd_coe_gcd⟩

/-! ### INV -/

/-- The loop of R201 finds no coefficient exactly when its operands are not coprime: it exits at remainder 1, so every
`r0` it meets is at least 2, and at remainder 0 the gcd is `r0`. -/
theorem euclidInv_eq_none_iff {fuel r0 r1 : Nat} (t0 t1 : Int) (hfuel : r1 < fuel) (hr0 : 2 ≤ r0) :
    euclidInv fuel r0 r1 t0 t1 = none ↔ Nat.gcd r0 r1 ≠ 1 := by
  induction fuel generalizing r0 r1 t0 t1 with
  | zero => omega
  | succ fuel ih =>
    unfold euclidInv
    split
    · next hzero =>
      rw [hzero, Nat.gcd_zero_right]
      exact iff_of_true rfl (by omega)
    · next hpos =>
      split
      · next hone => simp [hone]
      · next hlarge =>
        have hsmaller : r0 % r1 < r1 := Nat.mod_lt _ (Nat.pos_of_ne_zero hpos)
        rw [ih _ _ (by omega) (by omega), Nat.gcd_comm r1, ← Nat.gcd_rec, Nat.gcd_comm]

/-- The invariant of R201: each remainder is its coefficient times `x`, modulo `m`. -/
theorem modEq_of_euclidInv {m x t t0 t1 : Int} {fuel r0 r1 : Nat} (h0 : t0 * x ≡ r0 [ZMOD m])
    (h1 : t1 * x ≡ r1 [ZMOD m]) (h : euclidInv fuel r0 r1 t0 t1 = some t) : t * x ≡ 1 [ZMOD m] := by
  induction fuel generalizing r0 r1 t0 t1 with
  | zero => simp [euclidInv] at h
  | succ fuel ih =>
    unfold euclidInv at h
    split at h
    · cases h
    · split at h
      · next hone =>
        cases h
        rwa [hone] at h1
      · refine ih h1 ?_ h
        calc (t0 - ((r0 / r1 : Nat) : Int) * t1) * x
            = t0 * x - ((r0 / r1 : Nat) : Int) * (t1 * x) := by ring
          _ ≡ r0 - ((r0 / r1 : Nat) : Int) * r1 [ZMOD m] := h0.sub (h1.mul_left _)
          _ = ((r0 % r1 : Nat) : Int) := by
            rw [Int.natCast_div, Int.natCast_emod, Int.emod_def, Int.mul_comm (r1 : Int)]

theorem normalised_modEq (t m : Int) : normalised t m ≡ t [ZMOD m] := by
  unfold normalised
  split
  · exact Int.add_modEq_right
  · rfl

/-- One addition brings an inverse of magnitude at most `m` into `[1, m-1]` (R201). -/
theorem normalised_mem {t m x : Int} (hm : 2 ≤ m) (hbound : t.natAbs ≤ m.natAbs) (hinv : t * x ≡ 1 [ZMOD m]) :
    1 ≤ normalised t m ∧ normalised t m < m := by
  have hunit : ¬m ∣ t := fun hdvd => by
    have hone : m ∣ 1 := (Int.modEq_zero_iff_dvd.mp (hinv.symm.trans (Int.modEq_zero_iff_dvd.mpr (hdvd.mul_right x))))
    exact absurd (Int.le_of_dvd one_pos hone) (by omega)
  have hzero : t ≠ 0 := fun h => hunit (h ▸ dvd_zero m)
  have hhigh : t ≠ m := fun h => hunit (h ▸ dvd_rfl)
  have hlow : t ≠ -m := fun h => hunit (h ▸ (dvd_neg.mpr dvd_rfl))
  unfold normalised
  split <;> omega

/-- Two inverses of `x` modulo `m` in `[1, m-1]` are equal. -/
theorem inverse_unique {x m y z : Int} (hy : 1 ≤ y) (hym : y < m) (hz : 1 ≤ z) (hzm : z < m)
    (hxy : x * y ≡ 1 [ZMOD m]) (hxz : x * z ≡ 1 [ZMOD m]) : z = y := by
  have hmod : z ≡ y [ZMOD m] :=
    calc z = z * 1 := (mul_one z).symm
      _ ≡ z * (x * y) [ZMOD m] := hxy.symm.mul_left z
      _ = y * (x * z) := by ring
      _ ≡ y * 1 [ZMOD m] := hxz.mul_left y
      _ = y := mul_one y
  rwa [Int.ModEq, Int.emod_eq_of_lt (by omega) hzm, Int.emod_eq_of_lt (by omega) hym] at hmod

/-- INV's loop finds no coefficient exactly when the operands are not coprime (R201). -/
theorem inverseCoefficient_eq_none_iff {x m : Int} (hx : 1 ≤ x) (hm : 2 ≤ m) :
    inverseCoefficient x.toNat m.toNat = none ↔ Int.gcd x m ≠ 1 := by
  rw [inverseCoefficient, euclidInv_eq_none_iff _ _ (Nat.lt_succ_self _) (by omega), gcd_toNat (by omega) (by omega),
    Int.gcd_comm]

/-- What INV's loop finds, normalised, is an inverse of `x` in `[1, m-1]` (R201). -/
theorem normalised_inverseCoefficient_spec {x m t : Int} (hx : 1 ≤ x) (hm : 2 ≤ m)
    (h : inverseCoefficient x.toNat m.toNat = some t) :
    1 ≤ normalised t m ∧ normalised t m < m ∧ normalised t m * x ≡ 1 [ZMOD m] := by
  have hbound := natAbs_inverseCoefficient_le (by omega) h
  have hinv : t * x ≡ 1 [ZMOD m] :=
    modEq_of_euclidInv (by simp [Int.ModEq, show 0 ≤ m by omega]) (by simp [show 0 ≤ x by omega]) h
  obtain ⟨hlow, hhigh⟩ := normalised_mem hm (by omega) hinv
  exact ⟨hlow, hhigh, ((normalised_modEq t m).mul_right x).trans hinv⟩

/-- Settles O42: the loop ends with `none` or with an inverse, which passes the postcondition. -/
theorem invResult : Obligations.InvResult := by
  rintro s d a b x m rfl rfl
  have hpass : 1 ≤ s.opBig a → 2 ≤ s.opBig b → ∀ c ∈ invChecks (s.opBig a) (s.opBig b), c.1 = false := by
    intro hx hm
    simp [invChecks]
    omega
  refine ⟨fun hbad => ?_, fun hx hm hcoprime => ?_, fun hx hm hcommon => ?_⟩
  · exact guarded_oneCode (by simp [invChecks]) (by simp [invChecks]; omega)
  · obtain ⟨t, ht⟩ := Option.ne_none_iff_exists'.mp
      (mt (inverseCoefficient_eq_none_iff hx hm).mp (not_not.mpr hcoprime))
    obtain ⟨hlow, hhigh, hinv⟩ := normalised_inverseCoefficient_spec hx hm ht
    have hone : (1 : Int) % s.opBig b = 1 := Int.emod_eq_of_lt one_pos.le hm
    have hexec : execInv d a b s = .next (s.putBig d (normalised t (s.opBig b))).succeed := by
      rw [execInv, guarded_noCheck (hpass hx hm), ht]
      exact if_neg (not_not.mpr (Eq.trans hinv hone))
    rw [mul_comm] at hinv
    exact ⟨_, _, hexec, s.putBig_succeed_spec d _, hlow, hhigh, Eq.trans hinv hone, fun z hz hzm hxz =>
      inverse_unique hlow hhigh hz hzm hinv (Eq.trans hxz hone.symm)⟩
  · have hexec : execInv d a b s = .next (s.failWith 0x21#8 .noInverse) := by
      rw [execInv, guarded_noCheck (hpass hx hm), (inverseCoefficient_eq_none_iff hx hm).mpr hcommon]
    exact ⟨_, hexec, s.failWith_spec 0x21#8 .noInverse⟩

/-! ### INVSE -/

/-- The scan of R202 is the first hit among its candidates. -/
theorem inverseScan_eq_find? (mf f n y0 : Nat) :
    inverseScan mf f n y0 = (List.range' y0 n).find? (fun y => decide ((y * mf + 1) % f = 0)) := by
  induction n generalizing y0 with
  | zero => rfl
  | succ n ih =>
    rw [inverseScan, List.range'_succ, List.find?_cons, ih]
    by_cases hhit : (y0 * mf + 1) % f = 0 <;> simp [hhit]

theorem scan_hit_iff (m f y : Nat) : (y * (m % f) + 1) % f = 0 ↔ f ∣ y * m + 1 := by
  rw [← Nat.dvd_iff_mod_eq_zero]
  exact (((Nat.mod_modEq m f).mul_left y).add_right 1).dvd_iff dvd_rfl

theorem coprime_of_dvd_mul_add_one {f m y : Nat} (h : f ∣ y * m + 1) : Nat.Coprime f m := by
  have hdvd : Nat.gcd f m ∣ y * m + 1 := (Nat.gcd_dvd_left f m).trans h
  exact Nat.dvd_one.mp ((Nat.dvd_add_right ((Nat.gcd_dvd_right f m).mul_left y)).mp hdvd)

/-- The negated inverse of `m` modulo `f` is a candidate that hits. -/
theorem exists_dvd_mul_add_one {f m : Nat} (hf : 2 ≤ f) (h : Nat.Coprime f m) :
    ∃ y, 1 ≤ y ∧ y < f ∧ f ∣ y * m + 1 := by
  obtain ⟨z, hz, hinv⟩ := Nat.exists_mul_mod_eq_one_of_coprime h.symm hf
  have hpos : z ≠ 0 := fun hzero => by simp [hzero] at hinv
  refine ⟨f - z, by omega, by omega, ?_⟩
  have hsplit : (f - z) * m + m * z = f * m := by
    rw [Nat.mul_comm m, ← Nat.add_mul, Nat.sub_add_cancel hz.le]
  have hmod : (f - z) * m + 1 ≡ f * m [MOD f] := by
    rw [← hsplit]
    exact Nat.ModEq.add_left _ (by rw [Nat.ModEq, hinv, Nat.mod_eq_of_lt hf])
  exact (hmod.dvd_iff dvd_rfl).mpr (dvd_mul_right f m)

/-- R202's scan finds no candidate exactly when `f` and `m` are not coprime. -/
theorem inverseScan_eq_none_iff {m : Int} {f : Nat} (hm : 0 ≤ m) (hf : 2 ≤ f) :
    inverseScan (m.toNat % f) f (f - 1) 1 = none ↔ Int.gcd f m ≠ 1 := by
  lift m to Nat using hm
  simp only [inverseScan_eq_find?, List.find?_eq_none, List.mem_range'_1, decide_eq_true_eq, scan_hit_iff,
    Int.toNat_natCast, Int.gcd_natCast_natCast]
  constructor
  · intro hnone hcoprime
    obtain ⟨y, hy, hyf, hdvd⟩ := exists_dvd_mul_add_one hf hcoprime
    exact hnone y (by omega) hdvd
  · intro hcommon y _ hdvd
    exact hcommon (coprime_of_dvd_mul_add_one hdvd)

theorem dvd_of_inverseScan {m f n y0 y : Nat} (h : inverseScan (m % f) f n y0 = some y) : f ∣ y * m + 1 := by
  rw [inverseScan_eq_find?] at h
  have hhit := List.find?_some h
  rwa [decide_eq_true_eq, scan_hit_iff] at hhit

/-- The exact quotient `(y·m + 1) / f` of what the scan finds is the inverse of `f` in `[1, m-1]` (R202). -/
theorem invse_quotient_spec {m : Int} {f y : Nat} (hm : 2 ≤ m) (hf : 2 ≤ f)
    (h : inverseScan (m.toNat % f) f (f - 1) 1 = some y) :
    1 ≤ (y * m + 1) / f ∧ (y * m + 1) / f < m ∧ f * ((y * m + 1) / f) % m = 1 := by
  lift m to Nat using (by omega)
  rw [Int.toNat_natCast] at h
  norm_cast at hm ⊢
  have hdvd := dvd_of_inverseScan h
  have hy : y < f := by
    have := inverseScan_lt h
    omega
  refine ⟨Nat.div_pos (Nat.le_of_dvd (Nat.succ_pos _) hdvd) (by omega), Nat.div_lt_of_lt_mul ?_, ?_⟩
  · calc y * m + 1 < y * m + m := by omega
      _ = (y + 1) * m := by ring
      _ ≤ f * m := Nat.mul_le_mul_right m hy
  · rw [Nat.mul_div_cancel' hdvd, Nat.mul_add_mod', Nat.mod_eq_of_lt hm]

/-- Settles O43. -/
theorem invseResult : Obligations.InvseResult := by
  rintro s d a f m (rfl : f = s.arg32) rfl
  have hpass : 2 ≤ s.opBig a → 2 ≤ s.arg32 → s.arg32 < 1000000 →
      ∀ c ∈ invseChecks (s.opBig a) s.arg32, c.1 = false := by
    intro hm hf hf'
    simp [invseChecks]
    omega
  refine ⟨fun hbad => ?_, fun hm hf hf' hcoprime => ?_, fun hm hf hf' hcommon => ?_⟩
  · exact guarded_oneCode (by simp [invseChecks]) (by simp [invseChecks]; omega)
  · obtain ⟨y, hy⟩ := Option.ne_none_iff_exists'.mp
      (mt (inverseScan_eq_none_iff (by omega) hf).mp (not_not.mpr hcoprime))
    have hexec : execInvse d a s = .next (s.putBig d ((y * s.opBig a + 1) / s.arg32)).succeed := by
      rw [execInvse, guarded_noCheck (hpass hm hf hf'), hy]
    exact ⟨_, _, hexec, s.putBig_succeed_spec d _, invse_quotient_spec hm hf hy⟩
  · have hexec : execInvse d a s = .next (s.failWith 0x22#8 .noInverse) := by
      rw [execInvse, guarded_noCheck (hpass hm hf hf'), (inverseScan_eq_none_iff (by omega) hf).mpr hcommon]
    exact ⟨_, hexec, s.failWith_spec 0x22#8 .noInverse⟩

/-! ### SMALLFACT -/

/-- The test for 2 comes to the same as the search: 2 is the first prime of the ROM (R40, R203). -/
theorem smallFactor_eq_find? {c : Config} (hc : 0 < c.primeCount) (x : Nat) :
    smallFactor c.rom x = (c.rom.find? (fun p => decide (x % p = 0))).getD 0 := by
  unfold smallFactor
  split
  · next heven =>
    obtain ⟨n, hn⟩ := Nat.exists_eq_succ_of_ne_zero hc.ne'
    have htwo : primeAtLeast 2 2 = 2 := by decide
    rw [rom_eq_primesFrom, hn, primesFrom, htwo, List.find?_cons, decide_eq_true heven]
    rfl
  · rfl

/-- What SMALLFACT finds is 0 where no prime of the ROM divides, and otherwise the first that does (R203). -/
theorem smallFactor_spec {c : Config} (hc : 0 < c.primeCount) (x : Nat) :
    (smallFactor c.rom x = 0 ∧ ∀ i, i < c.primeCount → ¬c.primeAt i ∣ x) ∨
      ∃ i, i < c.primeCount ∧ smallFactor c.rom x = c.primeAt i ∧ c.primeAt i ∣ x ∧ c.primeAt i ≠ 0 ∧
        ∀ k, k < i → ¬c.primeAt k ∣ x := by
  have hentry : ∀ (i : Nat) (hi : i < c.rom.length), c.rom[i] = c.primeAt i := fun i hi =>
    (List.getD_eq_getElem _ _ hi).symm
  rw [smallFactor_eq_find? hc, ← length_rom]
  cases hfind : c.rom.find? (fun p => decide (x % p = 0)) with
  | none =>
    refine .inl ⟨rfl, fun i hi hdvd => ?_⟩
    have hmiss := List.find?_eq_none.mp hfind _ (List.getElem_mem hi)
    rw [hentry, decide_eq_true_eq] at hmiss
    exact hmiss (Nat.mod_eq_zero_of_dvd hdvd)
  | some p =>
    obtain ⟨hhit, i, hi, hp, hfirst⟩ := List.find?_eq_some_iff_getElem.mp hfind
    have hprime : p.Prime := prime_of_mem_rom (hp ▸ List.getElem_mem hi)
    rw [decide_eq_true_eq] at hhit
    rw [hentry] at hp
    refine .inr ⟨i, hi, hp.symm, hp ▸ Nat.dvd_of_mod_eq_zero hhit, hp ▸ hprime.ne_zero, fun k hk hdvd => ?_⟩
    have hmiss := hfirst k hk
    rw [hentry, decide_eq_true (Nat.mod_eq_zero_of_dvd hdvd)] at hmiss
    cases hmiss

/-- Settles O44. -/
theorem smallfactResult : Obligations.SmallfactResult := by
  intro s a hvalid
  refine ⟨fun hneg => guarded_oneCode (by simp) (by simp [hneg]), fun ha => ?_⟩
  obtain ⟨hcap, -, hcount, -⟩ := hvalid
  obtain ⟨x, hx⟩ := Int.eq_ofNat_of_zero_le ha
  refine ⟨_, smallFactor s.cfg.rom x, guarded_noCheck (by simp [ha]), ResultsOnly.succeeded rfl,
    dataKept_of_flagsAndRes rfl, ?_⟩
  have hspec := smallFactor_spec (show 0 < s.cfg.primeCount by omega) x
  simp only [hx, Int.natCast_dvd_natCast, Int.toNat_natCast]
  refine ⟨rfl, rfl, rfl, hspec.imp_right ?_⟩
  rintro ⟨i, hi, heq, hdvd, hne, hfirst⟩
  exact ⟨i, hi, heq, heq ▸ hdvd, heq ▸ hne, hfirst⟩

/-! ### ISQRT -/

/-- The bit-by-bit search finds the root from a start not above it and less than `2^n` below it (R204). -/
theorem rootBits_eq_sqrt {a n s : Nat} (hlow : s ≤ Nat.sqrt a) (hhigh : Nat.sqrt a < s + 2 ^ n) :
    rootBits a n s = Nat.sqrt a := by
  induction n generalizing s with
  | zero => exact Nat.le_antisymm hlow (Nat.lt_succ_iff.mp hhigh)
  | succ n ih =>
    rw [Nat.pow_succ] at hhigh
    unfold rootBits
    split
    · next hkeep => exact ih (Nat.le_sqrt.mpr hkeep) (by omega)
    · next hdrop =>
      rw [← Nat.le_sqrt] at hdrop
      exact ih hlow (by omega)

/-- Half the bits of `a`, and one more, are enough for its root. -/
theorem isqrt_eq_sqrt (a : Nat) : isqrt a = Nat.sqrt a := by
  refine rootBits_eq_sqrt (Nat.zero_le _) ?_
  rw [Nat.zero_add, Nat.sqrt_lt, ← Nat.pow_add]
  exact (lt_two_pow_bitlen a).trans_le (Nat.pow_le_pow_right (by decide) (by omega))

/-- Settles O45. -/
theorem isqrtResult : Obligations.IsqrtResult := by
  intro s d a
  refine ⟨fun hneg => guarded_oneCode (by simp) (by simp [hneg]), fun ha => ?_⟩
  obtain ⟨x, hx⟩ := Int.eq_ofNat_of_zero_le ha
  refine ⟨_, isqrt (s.opBig a).toNat, guarded_noCheck (by simp [ha]), ResultsOnly.succeeded rfl, s.setBig_same d _,
    ?_, ?_, Flags.primary_spec _ _, decide_eq_true_iff, bigKept_set s _ rfl, fun _ _ => rfl, fun _ _ => rfl, ⟨rfl, rfl⟩,
    rfl⟩
  · rw [isqrt_eq_sqrt, hx, Int.toNat_natCast]
    exact_mod_cast Nat.sqrt_le x
  · rw [isqrt_eq_sqrt, hx, Int.toNat_natCast]
    exact_mod_cast Nat.lt_succ_sqrt x

end Sys2Proof.Machine
end

section
/-! PROOFS. The exactness of the multiplier (R195), the digit-by-digit root (R205), Euclid's loop (R200) and the Garner
schedule (R291). -/

namespace Sys2Proof.Machine

/-! ### The multiplier -/

/-- The lowest `n` digits make up the number's remainder by `B^n` (R10). -/
theorem sum_digit_mul_pow (x n : Nat) : ∑ j ∈ Finset.range n, digit x j * radix ^ j = x % radix ^ n := by
  induction n with
  | zero => rw [Finset.sum_range_zero, pow_zero, Nat.mod_one]
  | succ n ih => rw [Finset.sum_range_succ, ih, mod_radix_pow_succ, Nat.add_comm]

theorem digit_eq_zero {x n i : Nat} (hx : x < radix ^ n) (hi : n ≤ i) : digit x i = 0 := by
  rw [digit, Nat.div_eq_of_lt (hx.trans_le (Nat.pow_le_pow_right radix_pos hi)), Nat.zero_mod]

/-- The whole of column `k`: its partial products, not yet split. -/
def columnTotal (x y k : Nat) : Nat := ∑ i ∈ Finset.range (k + 1), partialProduct x y k i

theorem columnLow_add_columnHigh (x y k : Nat) :
    columnLow x y k + radix * columnHigh x y k = columnTotal x y k := by
  calc columnLow x y k + radix * columnHigh x y k
      = ∑ i ∈ Finset.range (k + 1), partialProduct x y k i % radix +
          radix * ∑ i ∈ Finset.range (k + 1), partialProduct x y k i / radix := rfl
    _ = columnTotal x y k := by
      rw [Finset.mul_sum, ← Finset.sum_add_distrib]
      exact Finset.sum_congr rfl fun _ _ => Nat.mod_add_div _ _

/-- Column by column: the sums of the columns up to `n`, with the high parts of column `n` still to come, make up the
columns' totals. -/
theorem sum_columnSum (x y n : Nat) :
    ∑ k ∈ Finset.range (n + 1), columnSum x y k * radix ^ k + columnHigh x y n * radix ^ (n + 1) =
      ∑ k ∈ Finset.range (n + 1), columnTotal x y k * radix ^ k := by
  induction n with
  | zero =>
    rw [Finset.sum_range_one, Finset.sum_range_one, ← columnLow_add_columnHigh, columnSum, if_pos rfl]
    ring
  | succ n ih =>
    rw [Finset.sum_range_succ, Finset.sum_range_succ _ (n + 1), ← ih, ← columnLow_add_columnHigh, columnSum,
      if_neg (Nat.succ_ne_zero n), Nat.add_sub_cancel]
    ring

/-- A row of `n` partial products, in their places, is the row's digit in its place times the lowest `n` digits. -/
theorem sum_row (x y i n : Nat) : ∑ j ∈ Finset.range n, digit x i * digit y j * radix ^ (i + j) =
    digit x i * radix ^ i * (y % radix ^ n) := by
  rw [← sum_digit_mul_pow, Finset.mul_sum]
  refine Finset.sum_congr rfl fun j _ => ?_
  rw [Nat.pow_add, Nat.mul_mul_mul_comm]

theorem columnTotal_mul_pow (x y k : Nat) : columnTotal x y k * radix ^ k =
    ∑ i ∈ Finset.range (k + 1), digit x i * digit y (k - i) * radix ^ (i + (k - i)) := by
  rw [columnTotal, Finset.sum_mul]
  refine Finset.sum_congr rfl fun i hi => ?_
  rw [Nat.add_sub_cancel' (Finset.mem_range_succ_iff.mp hi), partialProduct]

/-- The columns of all the digits of both operands hold every partial product once: the sum by columns is the sum by
rows, and a row cut short by the last column has digit 0. -/
theorem sum_columnTotal {x y n m : Nat} (hx : x < radix ^ n) (hy : y < radix ^ m) :
    ∑ k ∈ Finset.range (n + m), columnTotal x y k * radix ^ k = x * y := by
  have hrow : ∀ i, digit x i * radix ^ i * (y % radix ^ (n + m - i)) = digit x i * radix ^ i * y := by
    intro i
    by_cases hi : n ≤ i
    · rw [digit_eq_zero hx hi, Nat.zero_mul, Nat.zero_mul, Nat.zero_mul]
    · rw [Nat.mod_eq_of_lt (hy.trans_le (Nat.pow_le_pow_right radix_pos (by omega)))]
  have hxmod : x % radix ^ (n + m) = x :=
    Nat.mod_eq_of_lt (hx.trans_le (Nat.pow_le_pow_right radix_pos (Nat.le_add_right n m)))
  simp only [columnTotal_mul_pow]
  rw [Finset.sum_range_diag_flip (n + m) fun i j => digit x i * digit y j * radix ^ (i + j)]
  simp only [sum_row, hrow]
  rw [← Finset.sum_mul, sum_digit_mul_pow, hxmod]

/-- The carry pass adds up the columns' sums and the carry, to as many digits as there are columns (R195). -/
theorem carryPass_eq (x y n k carry : Nat) : carryPass x y n k carry =
    (carry + ∑ j ∈ Finset.range n, columnSum x y (k + j) * radix ^ j) % radix ^ n := by
  induction n generalizing k carry with
  | zero => rw [pow_zero, Nat.mod_one, carryPass]
  | succ n ih =>
    have hsplit : carry + ∑ j ∈ Finset.range (n + 1), columnSum x y (k + j) * radix ^ j =
        columnSum x y k + carry + radix * ∑ j ∈ Finset.range n, columnSum x y (k + 1 + j) * radix ^ j := by
      have hshift : ∀ j, columnSum x y (k + (j + 1)) * radix ^ (j + 1) =
          radix * (columnSum x y (k + 1 + j) * radix ^ j) := fun j => by
        rw [Nat.add_right_comm, Nat.pow_succ', Nat.mul_left_comm, Nat.add_assoc]
      rw [Finset.sum_range_succ', Finset.mul_sum, Finset.sum_congr rfl fun j _ => hshift j, Nat.add_zero k, pow_zero,
        Nat.mul_one]
      omega
    rw [carryPass, ih, hsplit, Nat.pow_succ', Nat.mod_mul, Nat.add_mul_mod_self_left,
      Nat.add_mul_div_left _ _ radix_pos]

/-- The schoolbook product is the product (R195): it has at most the digits of both operands. -/
theorem schoolbookProduct_eq (x y : Nat) : schoolbookProduct x y = x * y := by
  have hx := lt_radix_pow_ndig x
  have hy := lt_radix_pow_ndig y
  have hxy : x * y < radix ^ (ndig x + ndig y) := by
    rw [Nat.pow_add]
    exact Nat.mul_lt_mul'' hx hy
  obtain ⟨n, hn⟩ : ∃ n, ndig x + ndig y = n + 1 := ⟨ndig x + ndig y - 1, by have := ndig_pos x; omega⟩
  have hsum := sum_columnSum x y n
  rw [← hn, sum_columnTotal hx hy] at hsum
  rw [schoolbookProduct, carryPass_eq, Nat.zero_add, ← Nat.mod_eq_of_lt hxy, ← hsum, Nat.add_mul_mod_self_right]
  simp only [Nat.zero_add]

/-! ### The square root -/

/-- The test of R205's digit search compares the digit with what the root still lacks at position `j`. -/
theorem rootDigit_le_iff {a b j : Nat} (hb : b ≤ Nat.sqrt a) (x : Nat) :
    x * radix ^ j * (2 * b + x * radix ^ j) ≤ a - b * b ↔ x ≤ (Nat.sqrt a - b) / radix ^ j := by
  have hsquare : b * b ≤ a := Nat.le_sqrt.mp hb
  have hexpand : (b + x * radix ^ j) * (b + x * radix ^ j) = b * b + x * radix ^ j * (2 * b + x * radix ^ j) := by ring
  rw [Nat.le_div_iff_mul_le (Nat.pow_pos radix_pos), Nat.le_sub_iff_add_le' hsquare, ← hexpand, ← Nat.le_sqrt,
    Nat.le_sub_iff_add_le' hb]

/-- The search finds the digit from a start not above it and less than `2^n` below it (R205). -/
theorem searchRootDigit_eq {a b j n x : Nat} (hb : b ≤ Nat.sqrt a) (hlow : x ≤ (Nat.sqrt a - b) / radix ^ j)
    (hhigh : (Nat.sqrt a - b) / radix ^ j < x + 2 ^ n) :
    searchRootDigit b (a - b * b) j n x = (Nat.sqrt a - b) / radix ^ j := by
  induction n generalizing x with
  | zero => exact Nat.le_antisymm hlow (Nat.lt_succ_iff.mp hhigh)
  | succ n ih =>
    rw [Nat.pow_succ] at hhigh
    unfold searchRootDigit
    split
    · next hkeep => exact ih ((rootDigit_le_iff hb _).mp hkeep) (by omega)
    · next hdrop =>
      rw [rootDigit_le_iff hb] at hdrop
      exact ih hlow (by omega)

/-- The loop over the positions below `n` completes a partial root that lacks less than `B^n` (R205). -/
theorem rootDigits_eq_sqrt {a n b : Nat} (hlow : b ≤ Nat.sqrt a) (hhigh : Nat.sqrt a < b + radix ^ n) :
    rootDigits a n b = Nat.sqrt a := by
  induction n generalizing b with
  | zero => exact Nat.le_antisymm hlow (Nat.lt_succ_iff.mp hhigh)
  | succ j ih =>
    have hlt : (Nat.sqrt a - b) / radix ^ j < 2 ^ 32 := by
      rw [← radix_eq]
      exact Nat.div_lt_of_lt_mul (by rw [← pow_succ]; omega)
    have hle := Nat.div_mul_le_self (Nat.sqrt a - b) (radix ^ j)
    have hrest : Nat.sqrt a - b < (Nat.sqrt a - b) / radix ^ j * radix ^ j + radix ^ j :=
      Nat.lt_div_mul_add (Nat.pow_pos radix_pos)
    rw [rootDigits, searchRootDigit_eq hlow (Nat.zero_le _) (by rwa [Nat.zero_add])]
    exact ih (by omega) (by omega)

/-- The root of the top chunk is the top part of the root. -/
theorem sqrt_div_sq (a : Nat) {w : Nat} (hw : 0 < w) : Nat.sqrt (a / (w * w)) = Nat.sqrt a / w := by
  refine eq_of_forall_le_iff fun m => ?_
  rw [Nat.le_sqrt, Nat.le_div_iff_mul_le (Nat.mul_pos hw hw), Nat.le_div_iff_mul_le hw, Nat.le_sqrt,
    Nat.mul_mul_mul_comm]

/-- The datapath of R205 finds the root: its first chunk is the root's leading digit. -/
theorem datapathRoot_eq_sqrt (a : Nat) : datapathRoot a = Nat.sqrt a := by
  unfold datapathRoot
  generalize hp : (ndig a - 1) / 2 = p
  have hw : 0 < radix ^ p := Nat.pow_pos radix_pos
  have htop : Nat.sqrt (a / radix ^ (2 * p)) = Nat.sqrt a / radix ^ p := by
    rw [Nat.two_mul, Nat.pow_add, sqrt_div_sq a hw]
  have hchunk : Nat.sqrt (a / radix ^ (2 * p)) < 2 ^ 32 := by
    rw [Nat.sqrt_lt, ← radix_eq]
    refine Nat.div_lt_of_lt_mul ?_
    calc a < radix ^ ndig a := lt_radix_pow_ndig a
      _ ≤ radix ^ (2 * p + 2) := Nat.pow_le_pow_right radix_pos (by omega)
      _ = radix ^ (2 * p) * (radix * radix) := by rw [Nat.pow_add, pow_two]
  rw [rootBits_eq_sqrt (Nat.zero_le _) (by rwa [Nat.zero_add]), htop]
  exact rootDigits_eq_sqrt (Nat.div_mul_le_self _ _) (Nat.lt_div_mul_add hw)

/-! ### Euclid's loop and the Garner schedule -/

theorem euclidLoop_eq_gcd {fuel u w : Nat} (hfuel : w < fuel) : euclidLoop fuel u w = Nat.gcd u w := by
  induction fuel generalizing u w with
  | zero => omega
  | succ fuel ih =>
    unfold euclidLoop
    split
    · next hzero => rw [hzero, Nat.gcd_zero_right]
    · next hpos =>
      have hsmaller : u % w < w := Nat.mod_lt _ (Nat.pos_of_ne_zero hpos)
      rw [ih (by omega), Nat.gcd_comm w, ← Nat.gcd_rec, Nat.gcd_comm]

/-- Additions of `p` change nothing modulo `p`. -/
theorem addModulus_modEq (p m2 : Int) (n : Nat) (m1 : Int) : addModulus p m2 n m1 ≡ m1 [ZMOD p] := by
  induction n generalizing m1 with
  | zero => rfl
  | succ n ih =>
    unfold addModulus
    split
    · exact (ih _).trans Int.add_modEq_right
    · rfl

/-- Settles O60. -/
theorem otherDatapathsAreExact : Obligations.OtherDatapathsAreExact := by
  refine ⟨schoolbookProduct_eq, fun a => ?_, fun x y => euclidLoop_eq_gcd (Nat.lt_succ_self y), ?_⟩
  · rw [datapathRoot_eq_sqrt]
    exact ⟨Nat.sqrt_le a, Nat.lt_succ_sqrt a⟩
  · exact fun n qInv p m1 m2 _ => ((addModulus_modEq p m2 n m1).sub_right m2).mul_left qInv

end Sys2Proof.Machine
end

section
/-! PROOFS. The reducer with the table of `m` and the exponent loop of MODEXP (R231, R232, R252, R254): every reduction
is congruent to its operand and short, so the loop gives `v^e mod m`. -/

namespace Sys2Proof.Machine

/-! ### The reducer -/

theorem getD_entries_build {m i : Nat} (hi : i < tableLen (ndig m)) :
    (Bank.build m).entries.getD i 0 = radix ^ i % m := by
  rw [List.getD_eq_getElem?_getD, Bank.build, List.getElem?_map, List.getElem?_range hi]
  rfl

/-- From the lowest `i` digits, the fold over the next `n` gives the lowest `i + n`, modulo `m` (R252). -/
theorem foldDigits_modEq {m v n i y : Nat} (hn : i + n ≤ tableLen (ndig m)) (hy : y ≡ v % radix ^ i [MOD m]) :
    foldDigits (Bank.build m).entries v n i y ≡ v % radix ^ (i + n) [MOD m] := by
  induction n generalizing i y with
  | zero => exact hy
  | succ n ih =>
    have hnext : y + digit v i * (Bank.build m).entries.getD i 0 ≡ v % radix ^ (i + 1) [MOD m] := by
      rw [getD_entries_build (by omega), mod_radix_pow_succ, Nat.add_comm (_ * _)]
      exact hy.add ((Nat.mod_modEq _ _).mul_left _)
    rw [← Nat.add_assoc, Nat.add_right_comm]
    exact ih (by omega) hnext

/-- REDUCE keeps the remainder modulo `m` of every operand in the table's range (R252). -/
theorem looseReduce_build_modEq {m v : Nat} (hv : ndig v ≤ tableLen (ndig m)) :
    (Bank.build m).looseReduce v ≡ v [MOD m] := by
  unfold Bank.looseReduce
  rw [show (Bank.build m).k = ndig m from rfl]
  split
  · rfl
  · next hlong =>
    have hsplit : ndig m - 1 + (ndig v - (ndig m - 1)) = ndig v := by omega
    have hfold := foldDigits_modEq (m := m) (v := v) (i := ndig m - 1) (n := ndig v - (ndig m - 1)) (by omega) rfl
    rwa [hsplit, Nat.mod_eq_of_lt (lt_radix_pow_ndig v)] at hfold

section
variable {m : Nat} (hm : 0 < m) (hk : ndig m + 12 ≤ radix)
include hm hk

/-- REDUCE answers at most `k + 2` digits (R254). -/
theorem looseReduce_build_lt_short {v : Nat} (hv : ndig v ≤ tableLen (ndig m)) :
    (Bank.build m).looseReduce v < radix ^ (ndig m + 2) := by
  have hkpos := ndig_pos m
  have hmk := lt_radix_pow_ndig m
  unfold Bank.looseReduce
  rw [show (Bank.build m).k = ndig m from rfl]
  split
  · exact (lt_radix_pow_ndig v).trans_le (Nat.pow_le_pow_right radix_pos (by omega))
  · have hfold := foldDigits_le (getD_entries_build_le hm) v (ndig v - (ndig m - 1)) (ndig m - 1)
      (v % radix ^ (ndig m - 1))
    have hlow : v % radix ^ (ndig m - 1) < radix ^ (ndig m + 1) :=
      (Nat.mod_lt _ (Nat.pow_pos radix_pos)).trans_le (Nat.pow_le_pow_right radix_pos (by omega))
    have hterm : radix * m ≤ radix ^ (ndig m + 1) := by
      rw [Nat.pow_succ']
      exact Nat.mul_le_mul_left _ hmk.le
    have hcount : ndig v - (ndig m - 1) ≤ ndig m + 11 := by unfold tableLen at hv; omega
    calc foldDigits (Bank.build m).entries v (ndig v - (ndig m - 1)) (ndig m - 1) (v % radix ^ (ndig m - 1))
        ≤ v % radix ^ (ndig m - 1) + (ndig v - (ndig m - 1)) * (radix * m) := hfold
      _ < radix ^ (ndig m + 1) + (ndig m + 11) * radix ^ (ndig m + 1) :=
        Nat.add_lt_add_of_lt_of_le hlow (Nat.mul_le_mul hcount hterm)
      _ = (ndig m + 12) * radix ^ (ndig m + 1) := by ring
      _ ≤ radix * radix ^ (ndig m + 1) := Nat.mul_le_mul_right _ hk
      _ = radix ^ (ndig m + 2) := (Nat.pow_succ' ..).symm

/-! ### The exponent loop -/

/-- One reduced product of loop values is a loop value again, congruent to the product (R231, R232). -/
theorem looseReduce_mul_spec {x y : Nat} (hx : x < radix ^ (ndig m + 2)) (hy : y < radix ^ (ndig m + 2)) :
    (Bank.build m).looseReduce (x * y) ≡ x * y [MOD m] ∧
      (Bank.build m).looseReduce (x * y) < radix ^ (ndig m + 2) := by
  have hrange : ndig (x * y) ≤ tableLen (ndig m) := by
    rw [ndig_le_iff (by unfold tableLen; omega)]
    calc x * y < radix ^ (ndig m + 2) * radix ^ (ndig m + 2) := Nat.mul_lt_mul'' hx hy
      _ = radix ^ (ndig m + 2 + (ndig m + 2)) := (Nat.pow_add ..).symm
      _ ≤ radix ^ tableLen (ndig m) := Nat.pow_le_pow_right radix_pos (by unfold tableLen; omega)
  exact ⟨looseReduce_build_modEq hrange, looseReduce_build_lt_short hm hk hrange⟩

/-- The loop over `n` bits of `e` multiplies `acc` by `base^e`, modulo `m` (R232). -/
theorem powerLoop_modEq {n e acc base : Nat} (he : e < 2 ^ n) (hacc : acc < radix ^ (ndig m + 2))
    (hbase : base < radix ^ (ndig m + 2)) :
    powerLoop (Bank.build m) n e acc base ≡ acc * base ^ e [MOD m] := by
  induction n generalizing e acc base with
  | zero =>
    obtain rfl : e = 0 := by omega
    rw [pow_zero, Nat.mul_one]
    rfl
  | succ n ih =>
    obtain ⟨hsquare, hsquare_lt⟩ := looseReduce_mul_spec hm hk hbase hbase
    obtain ⟨hprod, hprod_lt⟩ := looseReduce_mul_spec hm hk hacc hbase
    have hhalf : e / 2 < 2 ^ n := by omega
    have hsquares : (Bank.build m).looseReduce (base * base) ^ (e / 2) ≡ base ^ (2 * (e / 2)) [MOD m] := by
      rw [pow_mul, pow_two]
      exact hsquare.pow _
    unfold powerLoop
    split
    · next hodd =>
      have hexp : e = 1 + 2 * (e / 2) := by omega
      calc powerLoop (Bank.build m) n (e / 2) _ _
          ≡ (Bank.build m).looseReduce (acc * base) * (Bank.build m).looseReduce (base * base) ^ (e / 2) [MOD m] :=
            ih hhalf hprod_lt hsquare_lt
        _ ≡ acc * base * base ^ (2 * (e / 2)) [MOD m] := hprod.mul hsquares
        _ = acc * base ^ e := by rw [Nat.mul_assoc, ← Nat.pow_add_one', Nat.add_comm, ← hexp]
    · next heven =>
      have hexp : 2 * (e / 2) = e := by omega
      calc powerLoop (Bank.build m) n (e / 2) _ _
          ≡ acc * (Bank.build m).looseReduce (base * base) ^ (e / 2) [MOD m] := ih hhalf hacc hsquare_lt
        _ ≡ acc * base ^ (2 * (e / 2)) [MOD m] := hsquares.mul_left acc
        _ = acc * base ^ e := by rw [hexp]

/-- The exponentiation with the table of `m` gives the power (R230, R232). -/
theorem power_build (v e : Nat) : (Bank.build m).power v e m = powerMod v e m := by
  unfold Bank.power powerMod
  split
  · rfl
  · have hone : 1 < radix ^ (ndig m + 2) := Nat.one_lt_pow (by omega) (by decide)
    have hbase : v % m < radix ^ (ndig m + 2) :=
      (Nat.mod_lt _ hm).trans ((lt_radix_pow_ndig m).trans_le (Nat.pow_le_pow_right radix_pos (by omega)))
    have hloop := powerLoop_modEq hm hk (lt_two_pow_bitlen e) hone hbase
    rw [Nat.one_mul] at hloop
    exact hloop.trans ((Nat.mod_modEq v m).pow e)

end

/-- The power with the table of a modulus whose table fits the capacity (R7, R251). -/
theorem power_build_of_valid {c : Config} {m : Nat} (hc : c.Valid) (hm : 1 ≤ m) (hfits : 2 * ndig m + 10 ≤ c.cap)
    (v e : Nat) : (Bank.build m).power v e m = powerMod v e m := by
  obtain ⟨-, hcap, -⟩ := hc
  exact power_build hm (by rw [radix_eq]; omega) v e

end Sys2Proof.Machine
end

section
/-! PROOFS. The check phase of the four commands with safe points (R230, R235, R238, R290, R311-R313). -/

namespace Sys2Proof.Machine

theorem AtSegment.segment {n : Nat} {s : State} (h : AtSegment n s) : s.segment = n := by
  obtain ⟨j, hphase, hseg⟩ := h
  rw [State.segment_run s hphase, hseg]

/-- The first check that holds ends the command with its fault, and with nothing written (R312-R315). -/
theorem guarded_faulted {s : State} {opc : Byte} {checks : List (Bool × FaultCode)} {k : Result} {c : FaultCode}
    (h : firstFault checks = some c) : ∃ t, s.guarded opc checks k = .next t ∧ Faulted opc c s t :=
  ⟨_, State.guarded_fault h, s.failWith_spec opc c⟩

theorem tableTooLong_iff (s : State) (m : Nat) : s.tableTooLong m = true ↔ s.cfg.cap < 2 * ndig m + 10 :=
  decide_eq_true_iff

theorem tableTooLong_eq_false {s : State} {m : Nat} (h : 2 * ndig m + 10 ≤ s.cfg.cap) : s.tableTooLong m = false :=
  decide_eq_false (Nat.not_lt.mpr h)

theorem staleFor_iff (bk : Bank) (m : Int) :
    bk.staleFor m = true ↔ bk.valid = false ∨ (bk.modulus : Int) ≠ m := by
  simp [Bank.staleFor]

/-! ### The first segments -/

section
variable {s : State} (hseg : s.segment = 0)
include hseg

theorem execModexp_check (d a b c : BReg) (k : BankNo) (u : Use) : execModexp d a b c k u s =
    s.guarded 0x28#8 (s.modexpChecks (s.opBig a) (s.opBig b) (s.opBig c) k u)
      (.next (s.stopAt (encode (.modexp d a b c k u)) 1)) := by
  unfold execModexp
  rw [hseg]

theorem execFermat_check (a : BReg) (k : BankNo) : execFermat a k s =
    s.guarded 0x29#8 (s.fermatChecks (s.opBig a) s.arg32) (.next (s.stopAt (encode (.fermat a k)) 1)) := by
  rw [execFermat, hseg]

theorem execFermat1_check (a : BReg) (k : BankNo) : execFermat1 a k s =
    s.guarded 0x2A#8 (s.fermat1Checks (s.opBig a)) (.next (s.stopAt (encode (.fermat1 a k)) 1)) := by
  rw [execFermat1, hseg]

theorem execCrt_check (d a : BReg) (g : KeyGroup) (u : Use) : execCrt d a g u s =
    s.guarded 0x40#8 (s.crtChecks (s.crtKey a g) u) (.next (s.stopAt (encode (.crt d a g u)) 1)) := by
  unfold execCrt
  rw [hseg]

end

/-! ### The checks that hold -/

/-- Settles O48: in each clause the earlier checks are false and the clause's own holds. -/
theorem checkPhaseFaultsInOrder : Obligations.CheckPhaseFaultsInOrder := by
  intro s d a b c k g u hstart
  have hseg := hstart.segment
  simp only [exec, execModexp_check hseg, execFermat_check hseg, execFermat1_check hseg, execCrt_check hseg]
  refine ⟨⟨fun hm => ?_, fun hm hneg => ?_, fun hm ha hb hu hstale => ?_, fun hm ha hb hu hlong => ?_⟩,
    ⟨fun hm => ⟨?_, ?_⟩, fun hm hn => ?_, fun hm hlong => ⟨fun hn => ?_, ?_⟩⟩,
    fun x p q dP dQ qInv hkey => ?_⟩
  · exact guarded_faulted (by simp [State.modexpChecks, firstFault, hm])
  · exact guarded_faulted (by simp [State.modexpChecks, firstFault, hm, hneg])
  · have hpos : s.opBig c ≠ 0 ∧ ¬(s.opBig a < 0 ∨ s.opBig b < 0 ∨ s.opBig c < 0) := by omega
    have hbank : (s.bank k).staleFor (s.opBig c) = true := (staleFor_iff _ _).mpr hstale
    exact guarded_faulted (by simp [State.modexpChecks, firstFault, hpos, hu, hbank])
  · have hpos : s.opBig c ≠ 0 ∧ ¬(s.opBig a < 0 ∨ s.opBig b < 0 ∨ s.opBig c < 0) := by omega
    exact guarded_faulted (by simp [State.modexpChecks, firstFault, hpos, hu, tableTooLong_iff, hlong])
  · exact guarded_faulted (by simp [State.fermatChecks, firstFault, hm])
  · exact guarded_faulted (by simp [State.fermat1Checks, firstFault, hm])
  · exact guarded_faulted (by simp [State.fermatChecks, firstFault, not_lt.mpr hm, State.arg32, hn])
  · exact guarded_faulted (by
      simp [State.fermatChecks, firstFault, not_lt.mpr hm, State.arg32, not_lt.mpr hn, tableTooLong_iff, hlong])
  · exact guarded_faulted (by simp [State.fermat1Checks, firstFault, not_lt.mpr hm, tableTooLong_iff, hlong])
  · rw [hkey.crtKey_eq]
    refine ⟨fun hzero => ?_, fun hp hq hneg => ?_, fun hp hq hneg hu hstale => ?_, fun hp hq hneg hu hlong => ?_⟩
    · exact guarded_faulted (by simp [State.crtChecks, firstFault, hzero])
    · exact guarded_faulted (by simp [State.crtChecks, firstFault, hp, hq, hneg])
    · have hbanks : (s.bank 0).staleFor p = true ∨ (s.bank 1).staleFor q = true := by
        rw [staleFor_iff, staleFor_iff, or_assoc]
        exact hstale
      exact guarded_faulted (by simp [State.crtChecks, firstFault, hp, hq, hneg, hu, hbanks])
    · exact guarded_faulted (by
        simp [State.crtChecks, firstFault, hp, hq, hneg, hu, tableTooLong_iff, hlong])

end Sys2Proof.Machine
end

section
/-! PROOFS. MODEXP past its checks and not cancelled (R230-R233, R323): one equation per segment. What moving on to a segment
and a run of core steps do comes first. -/

namespace Sys2Proof.Machine

/-! ### Moving on, and ending -/

@[simp] theorem State.stopAt_stopAt (s : State) (w w' : Word) (m n : Nat) :
    (s.stopAt w m).stopAt w' n = s.stopAt w n := by
  unfold State.stopAt
  cases s.phase <;> rfl

@[simp] theorem State.arg32_stopAt (s : State) (w : Word) (n : Nat) : (s.stopAt w n).arg32 = s.arg32 := rfl

@[simp] theorem State.bank_stopAt (s : State) (w : Word) (n : Nat) (k : BankNo) :
    (s.stopAt w n).bank k = s.bank k := rfl

@[simp] theorem State.setBank_stopAt (s : State) (w : Word) (n : Nat) (k : BankNo) (bk : Bank) :
    (s.stopAt w n).setBank k bk = (s.setBank k bk).stopAt w n := rfl

theorem State.setBank_self {s : State} {k : BankNo} {bk : Bank} (h : s.tbl[k] = bk) : s.setBank k bk = s := by
  have hset : s.tbl.set k.val bk k.isLt = s.tbl := h ▸ Vector.set_getElem_self k.isLt
  rw [State.setBank, hset]

theorem banksKept_setBank (s : State) (k : BankNo) (bk : Bank) : BanksKept [k] s (s.setBank k bk) := fun _ hq =>
  s.setBank_other bk (by simpa using hq)

/-- Moving on after a bank is written changes PHASE and that bank only (R253, R323). -/
theorem State.setBank_stopAt_spec (s : State) (k : BankNo) (bk : Bank) (w : Word) (n : Nat) :
    MovesOn n [k] s ((s.setBank k bk).stopAt w n) :=
  { host := ⟨rfl, rfl, rfl, rfl, rfl, rfl, rfl, rfl, rfl, rfl⟩, cancelPending := rfl, done := rfl, err := rfl
    cancelled := rfl, faultCode := rfl, faultOpc := rfl, flags := rfl, draws := rfl
    big := fun _ _ => rfl, banks := banksKept_setBank s k bk, vectors := fun _ _ => rfl, res := ⟨rfl, rfl⟩
    phase := fun j h => by simp [State.stopAt, h] }

section
variable {i : Instr} {s t u : State} {w : Word} {m n : Nat} {k : Result}

theorem State.poll_pass (h : s.cancelPending = false) : s.poll k = k := by
  rw [State.poll, h]
  rfl

theorem runCommand_of_stopAt (h : exec i s = .next (u.stopAt w m)) :
    runCommand i (n + 1) s = runCommand i n (u.stopAt w m) := by
  rw [runCommand, h]
  exact if_neg (phase_stopAt_ne_idle u w m)

theorem runCommand_of_succeed (h : exec i s = .next t.succeed) : runCommand i (n + 1) s = .next t.succeed := by
  rw [runCommand, h]
  exact if_pos rfl

end

/-! ### MODEXP -/

section
variable {s : State} {d a b c : BReg} {k : BankNo} {u : Use} {v e m : Nat}

theorem execModexp_check_pass (ha : s.opBig a = (v : Int)) (hb : s.opBig b = (e : Int)) (hc : s.opBig c = (m : Int))
    (hseg : s.segment = 0) (hm : 1 ≤ m) (hfits : 2 * ndig m + 10 ≤ s.cfg.cap)
    (hreuse : u = .reuse → s.tbl[k] = Bank.build m) :
    execModexp d a b c k u s = .next (s.stopAt (encode (.modexp d a b c k u)) 1) := by
  have hstale : u = .reuse → (s.bank k).staleFor m = false := fun hu => by
    rw [State.bank, hreuse hu]
    simp [Bank.staleFor, Bank.build]
  rw [execModexp_check hseg, ha, hb, hc]
  exact guarded_noCheck (by simpa [State.modexpChecks, tableTooLong_eq_false hfits] using ⟨Nat.ne_of_gt hm, hstale⟩)

/-- The build of a bank that is the table already changes nothing, so that fresh and reuse come to the same (R233). -/
theorem execModexp_pre (hc : s.opBig c = (m : Int)) (hseg : s.segment = 1) (hcancel : s.cancelPending = false)
    (hreuse : u = .reuse → s.tbl[k] = Bank.build m) :
    execModexp d a b c k u s =
      .next ((s.setBank k (Bank.build m)).stopAt (encode (.modexp d a b c k u)) 2) := by
  unfold execModexp
  rw [hseg, hc, Int.toNat_natCast]
  cases u with
  | fresh => exact State.poll_pass hcancel
  | reuse =>
    rw [State.setBank_self (hreuse rfl)]
    exact State.poll_pass hcancel

theorem execModexp_post (ha : s.opBig a = (v : Int)) (hb : s.opBig b = (e : Int)) (hc : s.opBig c = (m : Int))
    (hseg : s.segment = 2) (hcancel : s.cancelPending = false) (hvalid : s.cfg.Valid) (hm : 1 ≤ m)
    (hfits : 2 * ndig m + 10 ≤ s.cfg.cap) (hbank : s.bank k = Bank.build m) :
    execModexp d a b c k u s = .next (s.putBig d (powerMod v e m)).succeed := by
  unfold execModexp
  rw [hseg, ha, hb, hc, hbank]
  simp only [Int.toNat_natCast, power_build_of_valid hvalid hm hfits]
  exact State.poll_pass hcancel

end

/-- Settles O49: the segments one after another. -/
theorem modexpCompletes : Obligations.ModexpCompletes := by
  intro s d a b c k u v e m hstart hcancel hvalid ha hb hc hm hfits hreuse
  exact ⟨_, _, _, execModexp_check_pass ha hb hc hstart.segment hm hfits hreuse, s.stopAt_spec _ _,
    execModexp_pre (by simpa using hc) (by simp) hcancel hreuse, State.setBank_stopAt_spec _ _ _ _ _,
    State.setBank_same _ _ _,
    execModexp_post (by simpa using ha) (by simpa using hb) (by simpa using hc) (by simp) hcancel hvalid hm hfits
      (by simp),
    State.putBig_succeed_spec _ _ _⟩

end Sys2Proof.Machine
end

section
/-! PROOFS. FERMAT1 and FERMAT past their checks and not cancelled (R235-R238, R323): one equation per segment, and the run
of FERMAT by induction on its rounds. -/

namespace Sys2Proof.Machine

/-! ### Fermat's test of one base -/

/-- What each test of candidate `c` in `b[a]` with bank `k` rests on: its table is in the bank, and no cancel
is pending. -/
structure CandidateReady (a : BReg) (k : BankNo) (c : Nat) (s : State) : Prop where
  noCancel : s.cancelPending = false
  config : s.cfg.Valid
  candidate : s.opBig a = (c : Int)
  atLeastTwo : 2 ≤ c
  tableFits : 2 * ndig c + 10 ≤ s.cfg.cap
  table : s.bank k = Bank.build c

/-- The end with a verdict writes PRIME and RES (R235, R238). -/
theorem putVerdict_spec (s : State) (p : Bool) (witness : Nat) :
    Succeeded s (s.putVerdict p witness).succeed ∧ DataKept s (s.putVerdict p witness).succeed ∧
      Verdict p witness s (s.putVerdict p witness).succeed :=
  ⟨ResultsOnly.succeeded rfl, dataKept_of_flagsAndRes rfl, rfl, rfl, rfl⟩

section
variable {s : State} {a : BReg} {k : BankNo} {c : Nat}

theorem CandidateReady.stopAt (h : CandidateReady a k c s) (w : Word) (n : Nat) :
    CandidateReady a k c (s.stopAt w n) :=
  { h with candidate := (s.opBig_stopAt w n a).trans h.candidate }

/-- The residue of a test with the candidate's table (R230, R235, R238). -/
theorem CandidateReady.fermatResidue_eq (h : CandidateReady a k c s) (base : Nat) :
    s.fermatResidue k (s.opBig a) base = base ^ (c - 1) % c := by
  have hc := h.atLeastTwo
  have hexp : ((c : Int) - 1).toNat = c - 1 := by omega
  rw [State.fermatResidue, h.candidate, h.table, hexp, Int.toNat_natCast,
    power_build_of_valid h.config (by omega) h.tableFits, powerMod, if_neg (by omega)]

/-! ### FERMAT1 -/

theorem execFermat1_check_pass (hseg : s.segment = 0) (ha : s.opBig a = (c : Int)) (hc : 2 ≤ c)
    (hfits : 2 * ndig c + 10 ≤ s.cfg.cap) :
    execFermat1 a k s = .next (s.stopAt (encode (.fermat1 a k)) 1) := by
  rw [execFermat1_check hseg, ha]
  exact guarded_noCheck (by simp [State.fermat1Checks, tableTooLong_eq_false hfits]; omega)

theorem execFermat1_start (hseg : s.segment = 1) (hcancel : s.cancelPending = false) (ha : s.opBig a = (c : Int)) :
    execFermat1 a k s = .next ((s.setBank k (Bank.build c)).stopAt (encode (.fermat1 a k)) 2) := by
  unfold execFermat1
  rw [hseg, ha]
  exact State.poll_pass hcancel

theorem execFermat1_before (hseg : s.segment = 2) (hcancel : s.cancelPending = false) :
    execFermat1 a k s = .next (s.stopAt (encode (.fermat1 a k)) 3) := by
  unfold execFermat1
  rw [hseg]
  exact State.poll_pass hcancel

theorem execFermat1_after (hseg : s.segment = 3) (h : CandidateReady a k c s) :
    execFermat1 a k s = .next
      (if s.arg32 ^ (c - 1) % c = 1 then (s.putVerdict true 0).succeed else (s.putVerdict false s.arg32).succeed) := by
  unfold execFermat1
  rw [hseg, h.fermatResidue_eq]
  exact State.poll_pass h.noCancel

/-- Settles O53: the segments one after another; the last has an end for each verdict. -/
theorem fermat1Completes : Obligations.Fermat1Completes := by
  intro s a k c hstart hcancel hvalid ha hc hfits
  have hready : CandidateReady a k c (s.setBank k (Bank.build c)) :=
    ⟨hcancel, hvalid, ha, hc, hfits, s.bank_setBank_same k _⟩
  have hbuild := execFermat1_start (s := s.stopAt (encode (.fermat1 a k)) 1) (k := k) (by simp) hcancel
    (by simpa using ha)
  refine ⟨_, _, _, _, execFermat1_check_pass hstart.segment ha hc hfits, s.stopAt_spec _ _, hbuild,
    State.setBank_stopAt_spec _ _ _ _ _, State.setBank_same _ _ _, execFermat1_before (by simp) hcancel,
    State.stopAt_spec _ _ _, execFermat1_after (by simp) (((hready.stopAt _ 1).stopAt _ 2).stopAt _ 3), ?_⟩
  split
  · next hpass =>
    obtain ⟨hended, hdata, hverdict⟩ := putVerdict_spec _ true 0
    exact ⟨hended, hdata, fun _ => hverdict, fun hfail => absurd hpass hfail⟩
  · next hfail =>
    obtain ⟨hended, hdata, hverdict⟩ := putVerdict_spec _ false s.arg32
    exact ⟨hended, hdata, fun hpass => absurd hpass hfail, fun _ => hverdict⟩

/-! ### The rounds of FERMAT -/

/-- The base of round `j` passes: `base^(c-1) mod c = 1` (R235). -/
abbrev FermatPasses (cfg : Config) (c j : Nat) : Prop := fermatBase cfg j ^ (c - 1) % c = 1

/-- The verdict and the witness that rounds `j` to `n - 1` lead to (R235). -/
inductive FermatOutcome (cfg : Config) (c j n : Nat) : Bool → Nat → Prop
  | allPass (passes : ∀ i, j ≤ i → i < n → FermatPasses cfg c i) : FermatOutcome cfg c j n true 0
  | fails (i : Nat) (started : j ≤ i) (within : i < n) (failed : ¬FermatPasses cfg c i)
      (first : ∀ l, j ≤ l → l < i → FermatPasses cfg c l) : FermatOutcome cfg c j n false (fermatBase cfg i)

theorem FermatOutcome.of_passes {cfg : Config} {j n x : Nat} {p : Bool} (hpass : FermatPasses cfg c j)
    (h : FermatOutcome cfg c (j + 1) n p x) : FermatOutcome cfg c j n p x := by
  have hextend : ∀ {l : Nat}, (j + 1 ≤ l → FermatPasses cfg c l) → j ≤ l → FermatPasses cfg c l := by
    intro l hlater hl
    rcases hl.eq_or_lt with rfl | hlt
    · exact hpass
    · exact hlater hlt
  cases h with
  | allPass passes => exact .allPass fun i hi hin => hextend (passes i · hin) hi
  | fails i started within failed first =>
    exact .fails i (by omega) within failed fun l hl hli => hextend (first l · hli) hl

theorem execFermat_check_pass (hseg : s.segment = 0) (ha : s.opBig a = (c : Int)) (hc : 2 ≤ c)
    (hn : s.arg32 ≤ s.cfg.primeCount) (hfits : 2 * ndig c + 10 ≤ s.cfg.cap) :
    execFermat a k s = .next (s.stopAt (encode (.fermat a k)) 1) := by
  rw [execFermat_check hseg, ha]
  exact guarded_noCheck (by simp [State.fermatChecks, tableTooLong_eq_false hfits, hn]; omega)

theorem execFermat_start (hseg : s.segment = 1) (hcancel : s.cancelPending = false) (ha : s.opBig a = (c : Int)) :
    execFermat a k s = .next
      (if s.arg32 = 0 then ((s.setBank k (Bank.build c)).putVerdict true 0).succeed
       else (s.setBank k (Bank.build c)).stopAt (encode (.fermat a k)) 2) := by
  unfold execFermat
  rw [hseg, ha]
  exact State.poll_pass hcancel

theorem execFermat_before {j : Nat} (hseg : s.segment = 2 + 2 * j) (hcancel : s.cancelPending = false) :
    execFermat a k s = .next (s.stopAt (encode (.fermat a k)) (3 + 2 * j)) := by
  have heven : 2 * j % 2 = 0 := Nat.mul_mod_right 2 j
  unfold execFermat
  rw [hseg, Nat.add_comm, Nat.add_comm 3]
  simp only [if_pos heven]
  exact State.poll_pass hcancel

theorem execFermat_after {j : Nat} (hseg : s.segment = 3 + 2 * j) (h : CandidateReady a k c s) :
    execFermat a k s = .next
      (if ¬FermatPasses s.cfg c j then (s.putVerdict false (fermatBase s.cfg j)).succeed
       else if j + 1 < s.arg32 then s.stopAt (encode (.fermat a k)) (4 + 2 * j)
       else (s.putVerdict true 0).succeed) := by
  have hsegment : s.segment = 2 * j + 1 + 2 := by omega
  have hodd : (2 * j + 1) % 2 ≠ 0 := by omega
  have hround : (2 * j + 1) / 2 = j := by omega
  have hnext : 2 * j + 1 + 3 = 4 + 2 * j := by omega
  unfold execFermat
  rw [hsegment]
  simp only [if_neg hodd, hround, hnext, h.fermatResidue_eq]
  exact State.poll_pass h.noCancel

end

/-- Settles O50: the segment after the round has an end for each verdict, and goes on otherwise. -/
theorem fermatRound : Obligations.FermatRound := by
  rintro s a k c j base hstart hcancel hvalid ha hc hfits hbank rfl
  refine ⟨_, execFermat_after hstart.segment ⟨hcancel, hvalid, ha, hc, hfits, hbank⟩, ?_⟩
  split
  · next hfail =>
    obtain ⟨hended, hdata, hverdict⟩ := putVerdict_spec s false (fermatBase s.cfg j)
    exact ⟨hdata, fun _ => ⟨hended, hverdict⟩, fun hpass => absurd hpass hfail, fun hpass => absurd hpass hfail⟩
  · next hpass =>
    split
    · next hmore =>
      have hmoved := s.stopAt_spec (encode (.fermat a k)) (4 + 2 * j)
      exact ⟨⟨hmoved.big, hmoved.banks, hmoved.vectors, hmoved.draws⟩, fun hfail => absurd hfail hpass,
        fun _ hlast => absurd hmore (Nat.not_lt.mpr hlast), fun _ _ => hmoved⟩
    · next hlast =>
      obtain ⟨hended, hdata, hverdict⟩ := putVerdict_spec s true 0
      exact ⟨hdata, fun hfail => absurd hfail hpass, fun _ _ => ⟨hended, hverdict⟩,
        fun _ hmore => absurd hmore hlast⟩

/-! ### FERMAT from its start to its end -/

section
variable {s : State} {a : BReg} {k : BankNo} {c : Nat}

/-- Round `j`, from the safe point before it: two core steps. -/
theorem runCommand_fermat_round (h : CandidateReady a k c s) (m j : Nat) :
    runCommand (.fermat a k) (m + 2) (s.stopAt (encode (.fermat a k)) (2 + 2 * j)) =
      if ¬FermatPasses s.cfg c j then .next (s.putVerdict false (fermatBase s.cfg j)).succeed
      else if j + 1 < s.arg32 then runCommand (.fermat a k) m (s.stopAt (encode (.fermat a k)) (2 + 2 * (j + 1)))
      else .next (s.putVerdict true 0).succeed := by
  have hbefore := execFermat_before (a := a) (k := k) (j := j) (s.segment_stopAt (encode (.fermat a k)) _) h.noCancel
  have hafter := execFermat_after (j := j) (s.segment_stopAt (encode (.fermat a k)) _) (h.stopAt _ _)
  rw [State.stopAt_stopAt] at hbefore
  rw [State.stopAt_cfg, State.arg32_stopAt, State.stopAt_stopAt] at hafter
  rw [runCommand_of_stopAt (i := .fermat a k) hbefore]
  split at hafter
  · next hfail =>
    rw [if_pos hfail]
    exact runCommand_of_succeed hafter
  · next hpass =>
    rw [if_neg hpass]
    split at hafter
    · next hmore =>
      have hnext : 2 + 2 * (j + 1) = 4 + 2 * j := by omega
      rw [if_pos hmore, hnext]
      exact runCommand_of_stopAt hafter
    · next hlast =>
      rw [if_neg hlast]
      exact runCommand_of_succeed hafter

/-- The last `r + 1` rounds, from the safe point before round `j`: `2·(r + 1)` core steps at most. -/
theorem runCommand_fermat_rounds (h : CandidateReady a k c s) {r j : Nat} (hj : j + (r + 1) = s.arg32) :
    ∃ p x, FermatOutcome s.cfg c j s.arg32 p x ∧
      runCommand (.fermat a k) (2 * (r + 1)) (s.stopAt (encode (.fermat a k)) (2 + 2 * j)) =
        .next (s.putVerdict p x).succeed := by
  induction r generalizing j with
  | zero =>
    rw [runCommand_fermat_round h]
    split
    · next hfail => exact ⟨_, _, .fails j le_rfl (by omega) hfail (by omega), rfl⟩
    · next hpass =>
      rw [if_neg (by omega)]
      exact ⟨_, _, .of_passes (not_not.mp hpass) (.allPass (by omega)), rfl⟩
  | succ r ih =>
    rw [Nat.mul_succ, runCommand_fermat_round h]
    split
    · next hfail => exact ⟨_, _, .fails j le_rfl (by omega) hfail (by omega), rfl⟩
    · next hpass =>
      obtain ⟨p, x, hout, hrun⟩ := ih (j := j + 1) (by omega)
      rw [if_pos (by omega)]
      exact ⟨p, x, hout.of_passes (not_not.mp hpass), hrun⟩

/-- A whole FERMAT that passes its checks and is not cancelled: the table of the candidate, and the verdict (R235). -/
theorem runCommand_fermat (hseg : s.segment = 0) (hcancel : s.cancelPending = false) (hvalid : s.cfg.Valid)
    (hn : s.arg32 ≤ s.cfg.primeCount) (ha : s.opBig a = (c : Int)) (hc : 2 ≤ c)
    (hfits : 2 * ndig c + 10 ≤ s.cfg.cap) :
    ∃ p x, FermatOutcome s.cfg c 0 s.arg32 p x ∧
      runCommand (.fermat a k) (2 * s.arg32 + 2) s =
        .next ((s.setBank k (Bank.build c)).putVerdict p x).succeed := by
  have hready : CandidateReady a k c (s.setBank k (Bank.build c)) :=
    ⟨hcancel, hvalid, ha, hc, hfits, s.bank_setBank_same k _⟩
  have hcheck := execFermat_check_pass (k := k) hseg ha hc hn hfits
  have hstart := execFermat_start (s := s.stopAt (encode (.fermat a k)) 1) (k := k) (by simp) hcancel
    (by simpa using ha)
  rw [runCommand_of_stopAt (i := .fermat a k) hcheck]
  rw [State.arg32_stopAt, State.setBank_stopAt, State.stopAt_stopAt] at hstart
  split at hstart
  · next hzero => exact ⟨_, _, .allPass (by omega), runCommand_of_succeed hstart⟩
  · next hpos =>
    obtain ⟨r, hr⟩ := Nat.exists_eq_succ_of_ne_zero hpos
    obtain ⟨p, x, hout, hrun⟩ := runCommand_fermat_rounds hready (r := r) (j := 0)
      ((Nat.zero_add _).trans hr.symm)
    refine ⟨p, x, hout, ?_⟩
    rw [runCommand_of_stopAt (i := .fermat a k) hstart, hr]
    exact hrun

end

/-- Settles O51. -/
theorem fermatCompletes : Obligations.FermatCompletes := by
  rintro s a k c n hstart hcancel hvalid rfl hn ha hc hfits
  obtain ⟨p, x, hout, hrun⟩ := runCommand_fermat (k := k) hstart.segment hcancel hvalid hn ha hc hfits
  have hverdict : Verdict p x s ((s.setBank k (Bank.build c)).putVerdict p x).succeed := ⟨rfl, rfl, rfl⟩
  refine ⟨_, hrun, ResultsOnly.succeeded rfl, s.setBank_same k _, fun _ _ => rfl, banksKept_setBank s k _,
    fun _ _ => rfl, rfl, ?_⟩
  cases hout with
  | allPass passes =>
    exact ⟨fun _ => hverdict, fun j hj hfail _ => absurd (passes j (Nat.zero_le j) hj) hfail⟩
  | fails i _ within failed first =>
    refine ⟨fun passes => absurd (passes i within) failed, fun j hj hfail hfirst => ?_⟩
    rcases Nat.lt_trichotomy i j with hlt | rfl | hlt
    · exact absurd (hfirst i hlt) failed
    · exact hverdict
    · exact absurd (first j (Nat.zero_le j) hlt) hfail

/-! ### The verdict on primes -/

/-- Every base used is a prime (R236, R40). -/
theorem prime_fermatBase {cfg : Config} {j : Nat} (hj : j < cfg.primeCount) : (fermatBase cfg j).Prime := by
  rw [fermatBase, primeAt_eq_nth cfg (by omega)]
  exact Nat.prime_nth_prime _

/-- Fermat's little theorem: of two primes, the base passes for the candidate exactly when they differ (R237). -/
theorem pow_pred_mod_eq_one_iff {b c : Nat} (hb : b.Prime) (hc : c.Prime) : b ^ (c - 1) % c = 1 ↔ b ≠ c := by
  constructor
  · rintro hpass rfl
    have hexp : b - 1 ≠ 0 := by have := hb.two_le; omega
    rw [Nat.mod_eq_zero_of_dvd (dvd_pow_self b hexp)] at hpass
    omega
  · intro hne
    have hfermat := Nat.ModEq.pow_totient ((Nat.coprime_primes hb hc).mpr hne)
    rwa [Nat.totient_prime hc, Nat.ModEq, Nat.mod_eq_of_lt hc.one_lt] at hfermat

/-- Settles O52: a prime passes each base but itself. -/
theorem fermatVerdictOnPrimes : Obligations.FermatVerdictOnPrimes := by
  rintro s a k c n hstart hcancel hvalid rfl hn ha hc hfits
  obtain ⟨p, x, hout, hrun⟩ := runCommand_fermat (k := k) hstart.segment hcancel hvalid hn ha hc.two_le hfits
  have hpasses : ∀ j, j < s.arg32 → (FermatPasses s.cfg c j ↔ fermatBase s.cfg j ≠ c) := fun j hj =>
    pow_pred_mod_eq_one_iff (prime_fermatBase (hj.trans_le hn)) hc
  refine ⟨_, hrun, ResultsOnly.succeeded rfl, ?_⟩
  cases hout with
  | allPass passes => exact iff_of_true rfl fun j hj => (hpasses j hj).mp (passes j (Nat.zero_le j) hj)
  | fails i _ within failed _ =>
    exact iff_of_false Bool.false_ne_true fun hne => failed ((hpasses i within).mpr (hne i within))

end Sys2Proof.Machine
end

section
/-! PROOFS. TBLBUILD and REDUCE (R250-R254): the entries of a built table, and REDUCE's value as the digit sum of that
table. -/

namespace Sys2Proof.Machine

/-! ### The built table -/

theorem getElem?_entries_build {m i : Nat} (hi : i < tableLen (ndig m)) :
    (Bank.build m).entries[i]? = some (2 ^ (32 * i) % m) := by
  rw [Bank.build, List.getElem?_map, List.getElem?_range hi, Option.map_some, radix_pow]

theorem length_entries_build (m : Nat) : (Bank.build m).entries.length = 2 * ndig m + 10 := by
  rw [Bank.build, List.length_map, List.length_range, tableLen]

/-- Settles O46: in each fault clause the earlier checks are false and the clause's own holds; past them the built table
is written to the bank. -/
theorem tblbuildResult : Obligations.TblbuildResult := by
  intro s a k m
  simp only [exec, execTblbuild]
  refine ⟨fun hzero => ?_, fun hneg => ?_, fun ha hm hlong => ?_, fun ha hm hfits => ?_⟩
  · exact guarded_faulted (by simp [State.buildChecks, firstFault, hzero])
  · exact guarded_faulted (by simp [State.buildChecks, firstFault, hneg, hneg.ne])
  · have hne : m ≠ 0 := Nat.ne_of_gt hm
    exact guarded_faulted (by simp [State.buildChecks, firstFault, ha, hne, tableTooLong_iff, hlong])
  · have hne : m ≠ 0 := Nat.ne_of_gt hm
    have hpass : ∀ x ∈ s.buildChecks (s.opBig a), x.1 = false := by
      simp [State.buildChecks, ha, hne, tableTooLong_eq_false hfits]
    have hbank : (s.setBank k (Bank.build m)).succeed.tbl[k] = Bank.build m := s.setBank_same k _
    rw [guarded_noCheck hpass, ha, Int.toNat_natCast]
    refine ⟨_, rfl, ResultsOnly.succeeded rfl, fun _ _ => rfl, banksKept_setBank s k _, fun _ _ => rfl, ⟨rfl, rfl⟩,
      rfl, rfl, ?_⟩
    rw [hbank]
    exact ⟨rfl, rfl, rfl, rfl, length_entries_build m, fun _ => getElem?_entries_build⟩

/-! ### The digit sum -/

/-- The fold over `n` digits from position `i` adds each scaled digit (R252). -/
theorem foldDigits_eq_sum (entries : List Nat) (v n i y : Nat) :
    foldDigits entries v n i y = y + ∑ j ∈ Finset.Ico i (i + n), digit v j * entries.getD j 0 := by
  induction n generalizing i y with
  | zero => simp [foldDigits]
  | succ n ih =>
    have hfirst : i < i + (n + 1) := by omega
    rw [foldDigits, ih, Finset.sum_eq_sum_Ico_succ_bot hfirst, Nat.add_assoc, Nat.add_assoc i 1 n, Nat.add_comm 1 n]

/-- REDUCE's value with the table of `m`: the low digits, and the others scaled by the entries (R252, R253). -/
theorem looseReduce_build_eq {m v : Nat} (hv : ndig v ≤ tableLen (ndig m)) :
    (Bank.build m).looseReduce v = if ndig v < ndig m then v
      else v % radix ^ (ndig m - 1) + ∑ i ∈ Finset.Ico (ndig m - 1) (ndig v), digit v i * (radix ^ i % m) := by
  unfold Bank.looseReduce
  rw [show (Bank.build m).k = ndig m from rfl]
  split
  · rfl
  · next hlong =>
    have hend : ndig m - 1 + (ndig v - (ndig m - 1)) = ndig v := by omega
    rw [foldDigits_eq_sum, hend]
    congr 1
    refine Finset.sum_congr rfl fun i hi => ?_
    rw [getD_entries_build ((Finset.mem_Ico.mp hi).2.trans_le hv)]

/-- Below the modulus an entry scales a digit by the full power: where the entry is a smaller one, the digit is 0. -/
theorem digit_mul_pow_mod {v m : Nat} (h : v < m) (i : Nat) : digit v i * (radix ^ i % m) = digit v i * radix ^ i := by
  rcases Nat.lt_or_ge (radix ^ i) m with hlt | hge
  · rw [Nat.mod_eq_of_lt hlt]
  · rw [digit_eq_zero (h.trans_le hge) le_rfl, Nat.zero_mul, Nat.zero_mul]

/-- REDUCE leaves an operand below the modulus as it is (R254): it has at most one digit to scale. -/
theorem looseReduce_build_of_lt {v m : Nat} (h : v < m) : (Bank.build m).looseReduce v = v := by
  have hk := ndig_pos m
  have hdigits : ndig v ≤ ndig m := (ndig_le_iff hk v).mpr (h.trans (lt_radix_pow_ndig m))
  rw [looseReduce_build_eq (hdigits.trans (by unfold tableLen; omega))]
  split
  · rfl
  · next hlong =>
    have heq : ndig v = ndig m - 1 + 1 := by omega
    rw [heq, Nat.Ico_succ_singleton, Finset.sum_singleton, digit_mul_pow_mod h, Nat.add_comm, ← mod_radix_pow_succ,
      ← heq, Nat.mod_eq_of_lt (lt_radix_pow_ndig v)]

/-! ### REDUCE -/

/-- REDUCE past its checks, with the table of `m` in the bank, writes the digit sum of that table (R252). -/
theorem execReduce_pass {s : State} {d a : BReg} {k : BankNo} {v m : Nat} (ha : s.opBig a = (v : Int))
    (hbank : s.bank k = Bank.build m) (hv : ndig v ≤ tableLen (ndig m)) :
    execReduce d a k s = .next (s.putBig d ((Bank.build m).looseReduce v : Int)).succeed := by
  have hready : (Bank.build m).valid = true ∧ ndig v ≤ (Bank.build m).len := ⟨rfl, hv⟩
  have hpass : ∀ x ∈ reduceChecks (Bank.build m) v, x.1 = false := by simpa [reduceChecks] using hready
  rw [execReduce, ha, hbank, guarded_noCheck hpass, Int.toNat_natCast]

/-- Settles O47: in each fault clause the earlier checks are false and the clause's own holds; past them the facts about
the value are those of the digit sum. -/
theorem reduceResult : Obligations.ReduceResult := by
  intro s d a k
  refine ⟨fun hneg => ?_, fun ha (hvalid : (s.bank k).valid = false) => ?_,
    fun ha (hvalid : (s.bank k).valid = true) (hlong : (s.bank k).len < _) => ?_,
    fun v m hcfg ha hm hfits hbank hv => ?_⟩
  · exact guarded_faulted (by simp [reduceChecks, firstFault, hneg])
  · exact guarded_faulted (by simp [reduceChecks, firstFault, not_lt.mpr ha, hvalid])
  · exact guarded_faulted (by simp [reduceChecks, firstFault, not_lt.mpr ha, hvalid, hlong])
  · obtain ⟨-, hcap, -⟩ := hcfg
    have hk : ndig m + 12 ≤ radix := by rw [radix_eq]; omega
    exact ⟨_, _, execReduce_pass ha hbank hv, s.putBig_succeed_spec d _, looseReduce_build_modEq hv,
      looseReduce_build_lt_short hm hk hv, looseReduce_build_of_lt, looseReduce_build_eq hv⟩

end Sys2Proof.Machine
end

section
/-! PROOFS. The residue-vector unit (R270-R274): the vectors slot by slot, what RVFROM, RVADD, RVSUB and RVMUL write and
leave unchanged, and the law of residues. -/

namespace Sys2Proof.Machine

/-! ### Vectors slot by slot -/

theorem getD_slotPrimes {c : Config} {i : Nat} (hi : i < c.slots) : c.slotPrimes.getD i 0 = c.primeAt i := by
  rw [Config.primeAt, Config.slotPrimes, List.getD_eq_getElem?_getD, List.getD_eq_getElem?_getD,
    List.getElem?_take_of_lt hi]

@[simp] theorem length_residues (primes : List Nat) (x : Nat) : (residues primes x).length = primes.length :=
  List.length_map _

theorem getD_residues {primes : List Nat} (x : Nat) {i : Nat} (hi : i < primes.length) :
    (residues primes x).getD i 0 = x % primes.getD i 0 := by
  simp [residues, hi]

/-- R42 pairs every prime with a slot. -/
theorem length_eq_of_slotsBelow {xs primes : List Nat} (h : slotsBelow xs primes = true) :
    xs.length = primes.length := by
  induction xs generalizing primes with
  | nil => cases primes with
    | nil => rfl
    | cons p ps => simp [slotsBelow] at h
  | cons x xs ih => cases primes with
    | nil => simp [slotsBelow] at h
    | cons p ps =>
      simp only [slotsBelow, Bool.and_eq_true] at h
      simp [ih h.2]

theorem getD_lt_of_slotsBelow {xs primes : List Nat} (h : slotsBelow xs primes = true) {i : Nat}
    (hi : i < primes.length) : xs.getD i 0 < primes.getD i 0 := by
  induction primes generalizing xs i with
  | nil => simp at hi
  | cons p ps ih => cases xs with
    | nil => simp [slotsBelow] at h
    | cons x xs =>
      simp only [slotsBelow, Bool.and_eq_true, decide_eq_true_eq] at h
      cases i with
      | zero => simpa using h.1
      | succ i => simpa using ih h.2 (Nat.lt_of_succ_lt_succ hi)

theorem length_slotwise (f : Nat → Nat → Nat → Nat) {primes xs ys : List Nat} (hx : xs.length = primes.length)
    (hy : ys.length = primes.length) : (slotwise f primes xs ys).length = primes.length := by
  induction primes generalizing xs ys with
  | nil => rfl
  | cons p ps ih =>
    obtain ⟨x, xs, rfl⟩ := List.exists_cons_of_length_eq_add_one hx
    obtain ⟨y, ys, rfl⟩ := List.exists_cons_of_length_eq_add_one hy
    simpa [slotwise] using ih (Nat.succ.inj hx) (Nat.succ.inj hy)

theorem getD_slotwise (f : Nat → Nat → Nat → Nat) {primes xs ys : List Nat} (hx : xs.length = primes.length)
    (hy : ys.length = primes.length) {i : Nat} (hi : i < primes.length) :
    (slotwise f primes xs ys).getD i 0 = f (primes.getD i 0) (xs.getD i 0) (ys.getD i 0) := by
  induction primes generalizing xs ys i with
  | nil => simp at hi
  | cons p ps ih =>
    obtain ⟨x, xs, rfl⟩ := List.exists_cons_of_length_eq_add_one hx
    obtain ⟨y, ys, rfl⟩ := List.exists_cons_of_length_eq_add_one hy
    cases i with
    | zero => rfl
    | succ i => simpa [slotwise] using ih (Nat.succ.inj hx) (Nat.succ.inj hy) (Nat.lt_of_succ_lt_succ hi)

/-! ### One slot of each command -/

theorem intCast_slotAdd (p x y : Nat) :
    ((slotAdd p x y : Nat) : Int) = if (p : Int) ≤ x + y then (x : Int) + y - p else x + y := by
  unfold slotAdd
  split_ifs <;> omega

theorem intCast_slotSub {p y : Nat} (x : Nat) (hy : y < p) :
    ((slotSub p x y : Nat) : Int) = if (y : Int) ≤ x then (x : Int) - y else x - y + p := by
  unfold slotSub
  split_ifs <;> omega

theorem intCast_slotMul (p x y : Nat) : ((slotMul p x y : Nat) : Int) = (x : Int) * y % p := by
  simp [slotMul]

/-! ### What the four commands write -/

/-- The vector command of state `s` succeeds in `t` with `value i` in slot `i` of `r[d]`, and no register, bank, other
vector, RES or flag written. -/
def WritesVector (d : VReg) (value : Nat → Int) (s t : State) : Prop :=
  Succeeded s t ∧ BigKept [] s t ∧ BanksKept [] s t ∧ VectorsKept [d] s t ∧ ResKept s t ∧ t.flags = s.flags ∧
    t.draws = s.draws ∧ t.rv[d].length = 2 * s.cfg.cap ∧
    ∀ i, i < 2 * s.cfg.cap → ((t.rv[d].getD i 0 : Nat) : Int) = value i

theorem writesVector_setVec {s : State} {d : VReg} {xs : List Nat} {value : Nat → Int}
    (hlength : xs.length = s.cfg.slots) (hvalue : ∀ i, i < s.cfg.slots → ((xs.getD i 0 : Nat) : Int) = value i) :
    WritesVector d value s (s.setVec d xs).succeed := by
  have hsame : (s.setVec d xs).succeed.rv[d] = xs := s.setVec_same d xs
  refine ⟨ResultsOnly.succeeded rfl, fun _ _ => rfl, fun _ _ => rfl, fun r hr => ?_, ⟨rfl, rfl⟩, rfl, rfl, ?_, ?_⟩
  · exact s.setVec_other xs (by simpa using hr)
  · rwa [hsame]
  · rwa [hsame]

/-- RVFROM of a non-negative register. -/
theorem writesVector_residues {s : State} (hcfg : s.cfg.Valid) (d : VReg) {v : Int} (hv : 0 ≤ v) :
    WritesVector d (fun i => v % (s.cfg.primeAt i : Nat)) s
      (s.setVec d (residues s.cfg.slotPrimes v.toNat)).succeed := by
  have hslots := length_slotPrimes hcfg
  refine writesVector_setVec (by rw [length_residues, hslots]) fun i hi => ?_
  rw [getD_residues _ (hi.trans_eq hslots.symm), getD_slotPrimes hi, Int.natCast_emod, Int.toNat_of_nonneg hv]

/-- A slotwise command writes what its slot function gives from slots below their primes. -/
theorem writesVector_slotwise {s : State} {a b : VReg} {f : Nat → Nat → Nat → Nat} {rule : Int → Int → Int → Int}
    (hcfg : s.cfg.Valid) (ha : slotsBelow s.rv[a] s.cfg.slotPrimes = true)
    (hb : slotsBelow s.rv[b] s.cfg.slotPrimes = true) (d : VReg)
    (hrule : ∀ p x y : Nat, y < p → ((f p x y : Nat) : Int) = rule p x y) :
    WritesVector d (fun i => rule (s.cfg.primeAt i : Nat) (s.rv[a].getD i 0 : Nat) (s.rv[b].getD i 0 : Nat)) s
      (s.setVec d (slotwise f s.cfg.slotPrimes (s.opVec a) (s.opVec b))).succeed := by
  have hslots := length_slotPrimes hcfg
  have hlengthA := length_eq_of_slotsBelow ha
  have hlengthB := length_eq_of_slotsBelow hb
  refine writesVector_setVec ((length_slotwise f hlengthA hlengthB).trans hslots) fun i hi => ?_
  have hi' : i < s.cfg.slotPrimes.length := hi.trans_eq hslots.symm
  have hbelow := getD_lt_of_slotsBelow hb hi'
  rw [State.opVec, State.opVec, getD_slotwise f hlengthA hlengthB hi', hrule _ _ _ hbelow, getD_slotPrimes hi]

/-- Settles O54: RVFROM by its check, the others by their slot functions. -/
theorem vectorResults : Obligations.VectorResults := by
  intro s d a b n hcfg ha hb Writes
  refine ⟨fun hn => ⟨_, guarded_noCheck (by simpa using hn), writesVector_residues hcfg d hn⟩,
    fun hn => guarded_faulted (by simp [firstFault, hn]), ⟨_, rfl, ?_⟩, ⟨_, rfl, ?_⟩, ⟨_, rfl, ?_⟩⟩
  · exact writesVector_slotwise (rule := fun p x y => if p ≤ x + y then x + y - p else x + y) hcfg ha hb d
      fun p x y _ => intCast_slotAdd p x y
  · exact writesVector_slotwise (rule := fun p x y => if y ≤ x then x - y else x - y + p) hcfg ha hb d
      fun _ x _ hy => intCast_slotSub x hy
  · exact writesVector_slotwise (rule := fun p x y => x * y % p) hcfg ha hb d fun p x y _ => intCast_slotMul p x y

/-! ### The law of residues -/

theorem slotAdd_mod (p x y : Nat) : slotAdd p (x % p) (y % p) = (x + y) % p :=
  Nat.add_mod_eq_ite.symm

theorem slotMul_mod (p x y : Nat) : slotMul p (x % p) (y % p) = x * y % p :=
  (Nat.mul_mod x y p).symm

/-- The residue of `x` is that of `(x - y) + y`, by the rule of addition. -/
theorem slotSub_mod {p x y : Nat} (hp : 0 < p) (hyx : y ≤ x) : slotSub p (x % p) (y % p) = (x - y) % p := by
  have hy := Nat.mod_lt y hp
  have hdiff := Nat.mod_lt (x - y) hp
  have hsum := slotAdd_mod p (x - y) y
  rw [Nat.sub_add_cancel hyx] at hsum
  unfold slotAdd at hsum
  unfold slotSub
  split_ifs at hsum ⊢ <;> omega

/-- A slot function that gives the residues of `z` from those of `x` and `y` does so for the whole vector. -/
theorem slotwise_residues {f : Nat → Nat → Nat → Nat} {primes : List Nat} {x y z : Nat}
    (hf : ∀ p ∈ primes, f p (x % p) (y % p) = z % p) :
    slotwise f primes (residues primes x) (residues primes y) = residues primes z := by
  induction primes with
  | nil => rfl
  | cons p ps ih =>
    obtain ⟨hhead, htail⟩ := List.forall_mem_cons.mp hf
    exact congrArg₂ List.cons hhead (ih htail)

/-- Settles O55, slot by slot. -/
theorem vectorHomomorphism : Obligations.VectorHomomorphism := fun _ x y _ =>
  ⟨slotwise_residues fun p _ => slotAdd_mod p x y, slotwise_residues fun p _ => slotMul_mod p x y,
    fun hyx => slotwise_residues fun _ hp => slotSub_mod (prime_of_mem_slotPrimes hp).pos hyx⟩

end Sys2Proof.Machine
end

section
/-! PROOFS. CRT past its checks and not cancelled (R290-R293, R323): one equation per segment, the run of
the four segments, and the decryption law from Fermat's little theorem and the Chinese remainder theorem. -/

namespace Sys2Proof.Machine

/-! ### The segments -/

theorem Bank.staleFor_build (m : Nat) : (Bank.build m).staleFor m = false := by
  simp [Bank.staleFor, Bank.build]

/-- The banks hold the tables of CRT's primes: t0 that of P, t1 that of Q (R290). -/
def State.HoldsTables (s : State) (p q : Nat) : Prop := s.bank 0 = Bank.build p ∧ s.bank 1 = Bank.build q

/-- The state with both tables built, as SP0 leaves it (R290). -/
def State.buildBoth (s : State) (p q : Nat) : State := (s.setBank 0 (Bank.build p)).setBank 1 (Bank.build q)

@[simp] theorem State.crtKey_buildBoth (s : State) (p q : Nat) (a : BReg) (g : KeyGroup) :
    (s.buildBoth p q).crtKey a g = s.crtKey a g := rfl

theorem State.holdsTables_buildBoth (s : State) (p q : Nat) : (s.buildBoth p q).HoldsTables p q :=
  ⟨((s.setBank 0 _).setBank_other _ (by decide : (0 : BankNo) ≠ 1)).trans (s.setBank_same 0 _),
    (s.setBank 0 _).setBank_same 1 _⟩

theorem State.HoldsTables.buildBoth_eq {s : State} {p q : Nat} (h : s.HoldsTables p q) : s.buildBoth p q = s := by
  obtain ⟨hp, hq⟩ := h
  rw [State.buildBoth, State.setBank_self hp, State.setBank_self hq]

/-- Moving on after both tables are built changes PHASE and the two banks only (R290, R323). -/
theorem State.buildBoth_stopAt_spec (s : State) (p q : Nat) (w : Word) (n : Nat) :
    MovesOn n [0, 1] s ((s.buildBoth p q).stopAt w n) :=
  { host := ⟨rfl, rfl, rfl, rfl, rfl, rfl, rfl, rfl, rfl, rfl⟩, cancelPending := rfl, done := rfl, err := rfl
    cancelled := rfl, faultCode := rfl, faultOpc := rfl, flags := rfl, draws := rfl, big := fun _ _ => rfl
    vectors := fun _ _ => rfl, res := ⟨rfl, rfl⟩, phase := ((s.buildBoth p q).stopAt_spec w n).phase
    banks := fun r hr => by
      obtain ⟨hne0, hne1⟩ : r ≠ 0 ∧ r ≠ 1 := by simpa using hr
      exact ((s.setBank 0 _).setBank_other _ hne1).trans (s.setBank_other _ hne0) }

section
variable {s : State} {d a : BReg} {g : KeyGroup} {u : Use} {c p q dP dQ qInv : Nat}

theorem execCrt_between (hseg : s.segment = 2) (hcancel : s.cancelPending = false) :
    execCrt d a g u s = .next (s.stopAt (encode (.crt d a g u)) 3) := by
  unfold execCrt
  rw [hseg]
  exact State.poll_pass hcancel

variable (hkey : s.crtKey a g = { c := c, p := p, q := q, dP := dP, dQ := dQ, qInv := qInv })
include hkey

theorem execCrt_check_pass (hseg : s.segment = 0) (hp : 1 ≤ p) (hq : 1 ≤ q) (hfitsP : 2 * ndig p + 10 ≤ s.cfg.cap)
    (hfitsQ : 2 * ndig q + 10 ≤ s.cfg.cap) (hreuse : u = .reuse → s.HoldsTables p q) :
    execCrt d a g u s = .next (s.stopAt (encode (.crt d a g u)) 1) := by
  have hstale : u = .reuse → (s.bank 0).staleFor p = false ∧ (s.bank 1).staleFor q = false := fun hu => by
    obtain ⟨hbankP, hbankQ⟩ := hreuse hu
    rw [hbankP, hbankQ]
    exact ⟨Bank.staleFor_build p, Bank.staleFor_build q⟩
  have hnonzero : p ≠ 0 ∧ q ≠ 0 := by omega
  rw [execCrt_check hseg, hkey]
  exact guarded_noCheck (by
    simpa [State.crtChecks, tableTooLong_eq_false hfitsP, tableTooLong_eq_false hfitsQ] using ⟨hnonzero, hstale⟩)

/-- Building the tables that the banks hold already changes nothing, so that fresh and reuse come to the same (R290). -/
theorem execCrt_build (hseg : s.segment = 1) (hcancel : s.cancelPending = false)
    (hreuse : u = .reuse → s.HoldsTables p q) :
    execCrt d a g u s = .next ((s.buildBoth p q).stopAt (encode (.crt d a g u)) 2) := by
  unfold execCrt
  rw [hseg, hkey]
  cases u with
  | fresh => exact State.poll_pass hcancel
  | reuse =>
    rw [(hreuse rfl).buildBoth_eq]
    exact State.poll_pass hcancel

theorem execCrt_garner (hseg : s.segment = 3) (hcancel : s.cancelPending = false) (hvalid : s.cfg.Valid) (hp : 1 ≤ p)
    (hq : 1 ≤ q) (hfitsP : 2 * ndig p + 10 ≤ s.cfg.cap) (hfitsQ : 2 * ndig q + 10 ≤ s.cfg.cap)
    (htables : s.HoldsTables p q) :
    execCrt d a g u s =
      .next (s.putBig d (garner (s.crtKey a g) (powerMod c dP p) (powerMod c dQ q))).succeed := by
  obtain ⟨hbankP, hbankQ⟩ := htables
  have hresult : s.crtResult (s.crtKey a g) = garner (s.crtKey a g) (powerMod c dP p) (powerMod c dQ q) := by
    simp only [State.crtResult, hkey, hbankP, hbankQ, Int.toNat_natCast, power_build_of_valid hvalid hp hfitsP,
      power_build_of_valid hvalid hq hfitsQ]
  unfold execCrt
  rw [hseg, hresult]
  exact State.poll_pass hcancel

end

/-- Settles O56: the segments one after another. -/
theorem crtCompletes : Obligations.CrtCompletes := by
  intro s d a g u c p q dP dQ qInv hstart hcancel hvalid hlaid hp hq hfitsP hfitsQ hreuse
  have hkey := hlaid.crtKey_eq
  obtain ⟨hbankP, hbankQ⟩ := (s.stopAt (encode (.crt d a g u)) 1).holdsTables_buildBoth p q
  refine ⟨_, _, _, _, execCrt_check_pass hkey hstart.segment hp hq hfitsP hfitsQ hreuse, s.stopAt_spec _ _,
    execCrt_build (by simpa using hkey) (by simp) hcancel hreuse, State.buildBoth_stopAt_spec _ _ _ _ _, hbankP, hbankQ,
    execCrt_between (by simp) hcancel, State.stopAt_spec _ _ _,
    execCrt_garner (by simpa using hkey) (by simp) hcancel hvalid hp hq hfitsP hfitsQ ⟨hbankP, hbankQ⟩,
    ?_⟩
  simpa [hkey, garner] using State.putBig_succeed_spec _ d _

/-! ### The run of a command that moves on -/

section
variable {i : Instr} {s t u : State} {m n : Nat} {except : List BankNo}

theorem HostSideKept.trans (h : HostSideKept s t) (h' : HostSideKept t u) : HostSideKept s u :=
  { cfg := h'.cfg.trans h.cfg, arg0 := h'.arg0.trans h.arg0, arg1 := h'.arg1.trans h.arg1
    cmdCount := h'.cmdCount.trans h.cmdCount, hostErr := h'.hostErr.trans h.hostErr, intEn := h'.intEn.trans h.intEn
    wsel := h'.wsel.trans h.wsel, widx := h'.widx.trans h.widx, inputs := h'.inputs.trans h.inputs
    readData := h'.readData.trans h.readData }

theorem MovesOn.atSegment (h : MovesOn n except s t) (hs : AtSegment m s) : AtSegment n t := by
  obtain ⟨j, hphase, -⟩ := hs
  exact ⟨_, h.phase j hphase, rfl⟩

/-- An end by success after moving on is one of the state before (R317(a), R323). -/
theorem MovesOn.succeeded (h : MovesOn n except s t) (hend : Succeeded t u) : Succeeded s u :=
  { hend with host := h.host.trans hend.host, cancelPending := hend.cancelPending.trans h.cancelPending }

theorem runCommand_of_movesOn {fuel : Nat} (hs : AtSegment m s) (hexec : exec i s = .next t)
    (hmoves : MovesOn n except s t) : runCommand i (fuel + 1) s = runCommand i fuel t := by
  obtain ⟨j, hphase, -⟩ := hmoves.atSegment hs
  simp [runCommand, hexec, hphase]

theorem runCommand_of_succeeded {fuel : Nat} (hexec : exec i s = .next t) (hend : Succeeded s t) :
    runCommand i (fuel + 1) s = .next t := by
  simp [runCommand, hexec, hend.phase]

end

/-! ### The decryption law -/

/-- An exponent that is invertible modulo a multiple of `n > 1` does not reduce to 0 modulo `n`. -/
theorem reducedExponent_ne_zero {n k e d : Nat} (hn : 1 < n) (hinv : e * d % (n * k) = 1) : d % n ≠ 0 := by
  intro hzero
  have hdvd : n ∣ e * d := (Nat.dvd_of_mod_eq_zero hzero).mul_left e
  have hone : e * d % n = 1 := by rw [← Nat.mod_mul_right_mod, hinv, Nat.mod_eq_of_lt hn]
  omega

/-- Modulo a prime `p` the exponent may be reduced modulo `p - 1`, unless that gives 0: exponent 0 gives 1 for a
multiple of `p` as well (R230, R293). -/
theorem powerMod_reducedExponent {p d : Nat} (hp : p.Prime) (hd : d % (p - 1) ≠ 0) (c : Nat) :
    powerMod c (d % (p - 1)) p = c ^ d % p := by
  rw [powerMod, if_neg hd]
  by_cases hdvd : p ∣ c
  · have hd0 : d ≠ 0 := fun h => hd (by rw [h, Nat.zero_mod])
    rw [Nat.mod_eq_zero_of_dvd (dvd_pow hdvd hd), Nat.mod_eq_zero_of_dvd (dvd_pow hdvd hd0)]
  · have hfermat := Nat.ModEq.pow_card_sub_one_eq_one hp ((hp.coprime_iff_not_dvd.mpr hdvd).symm)
    have hcycles : (c ^ (p - 1)) ^ (d / (p - 1)) * c ^ (d % (p - 1)) ≡ c ^ (d % (p - 1)) [MOD p] := by
      simpa using (hfermat.pow (d / (p - 1))).mul_right (c ^ (d % (p - 1)))
    rw [← pow_mul, ← pow_add, Nat.div_add_mod] at hcycles
    exact hcycles.symm

/-- CRT's result is congruent to `m2` modulo Q, whatever the key (R293). -/
theorem garner_modEq_q (x : CrtKey) (m1 m2 : Int) : garner x m1 m2 ≡ m2 [ZMOD x.q] := by
  simp [garner, Int.ModEq]

/-- CRT's result is congruent to `m1` modulo P when qInv is the inverse of Q (R293). -/
theorem garner_modEq_p {x : CrtKey} (hinv : x.qInv * x.q ≡ 1 [ZMOD x.p]) (m1 m2 : Int) :
    garner x m1 m2 ≡ m1 [ZMOD x.p] :=
  calc garner x m1 m2
      ≡ m2 + x.qInv * (m1 - m2) * x.q [ZMOD x.p] := ((Int.mod_modEq _ _).mul_right _).add_left _
    _ = m2 + x.qInv * x.q * (m1 - m2) := by ring
    _ ≡ m2 + 1 * (m1 - m2) [ZMOD x.p] := (hinv.mul_right _).add_left _
    _ = m1 := by ring

/-- CRT's result lies in `[0, P·Q)` (R292). -/
theorem garner_mem_range {x : CrtKey} {m2 : Int} (hp : 0 < x.p) (h0 : 0 ≤ m2) (h2 : m2 < x.q) (m1 : Int) :
    0 ≤ garner x m1 m2 ∧ garner x m1 m2 < x.p * x.q := by
  have hlow := Int.emod_nonneg (x.qInv * (m1 - m2)) hp.ne'
  have hhigh := Int.emod_lt_of_pos (x.qInv * (m1 - m2)) hp
  unfold garner
  constructor <;> nlinarith

/-- Garner's formula recombines the remainders of `m` modulo coprime P and Q (R293). -/
theorem garner_emod {x : CrtKey} (hp : 0 < x.p) (hq : 0 < x.q) (hcoprime : x.p.natAbs.Coprime x.q.natAbs)
    (hinv : x.qInv * x.q ≡ 1 [ZMOD x.p]) (m : Int) : garner x (m % x.p) (m % x.q) = m % (x.p * x.q) := by
  have hmod : garner x (m % x.p) (m % x.q) ≡ m [ZMOD x.p * x.q] :=
    (Int.modEq_and_modEq_iff_modEq_mul hcoprime).mp
      ⟨(garner_modEq_p hinv _ _).trans (Int.mod_modEq _ _), (garner_modEq_q x _ _).trans (Int.mod_modEq _ _)⟩
  obtain ⟨hlow, hhigh⟩ :=
    garner_mem_range hp (Int.emod_nonneg m hq.ne') (Int.emod_lt_of_pos m hq) (m % x.p)
  rw [← Int.emod_eq_of_lt hlow hhigh, hmod]

/-- Settles O57: the four steps of `crtCompletes`, whose value is `c^d` modulo each prime by Fermat's little theorem. -/
theorem crtDecrypts : Obligations.CrtDecrypts := by
  intro s rd a g u c p q e d qInv hstart hcancel hvalid hp hq hne hp2 hq2 hed _ hinv _ hlaid hfitsP hfitsQ hreuse
  obtain ⟨s1, s2, s3, t, hexec, hmoves, hexec1, hmoves1, -, -, hexec2, hmoves2, hexec3, hwrites⟩ :=
    crtCompletes s rd a g u _ _ _ _ _ _ hstart hcancel hvalid hlaid hp.one_le hq.one_le hfitsP hfitsQ hreuse
  have hstart1 := hmoves.atSegment hstart
  have hstart2 := hmoves1.atSegment hstart1
  refine ⟨t, ?_, hmoves.succeeded (hmoves1.succeeded (hmoves2.succeeded hwrites.ended)), ?_⟩
  · rw [runCommand_of_movesOn hstart hexec hmoves, runCommand_of_movesOn hstart1 hexec1 hmoves1,
      runCommand_of_movesOn hstart2 hexec2 hmoves2, runCommand_of_succeeded hexec3 hwrites.ended]
  · have hdP : d % (p - 1) ≠ 0 := reducedExponent_ne_zero (by omega) hed
    have hdQ : d % (q - 1) ≠ 0 := reducedExponent_ne_zero (by omega) (Nat.mul_comm (p - 1) _ ▸ hed)
    have hinvP : (qInv : Int) * q ≡ 1 [ZMOD p] := by
      exact_mod_cast (show qInv * q ≡ 1 [MOD p] from hinv.trans (Nat.mod_eq_of_lt hp.one_lt).symm)
    have hgarner := garner_emod
      (x := { c := c, p := p, q := q, dP := (d % (p - 1) : Nat), dQ := (d % (q - 1) : Nat), qInv := qInv })
      (Int.natCast_pos.mpr hp.pos) (Int.natCast_pos.mpr hq.pos) ((Nat.coprime_primes hp hq).mpr hne) hinvP (c ^ d : Nat)
    rw [hwrites.result, powerMod_reducedExponent hp hdP, powerMod_reducedExponent hq hdQ]
    simpa [garner] using hgarner

end Sys2Proof.Machine
end

section
/-! PROOFS. The life cycle of a command (R314-R317, R322, R323, R331): its accept, the core's turn that runs it, and its
ends, by success, by a fault and by cancellation. -/

namespace Sys2Proof.Machine

/-! ### The core's turn -/

theorem step_of_empty {s : State} (h : s.inputs = []) : step s = s.coreStep := by
  simp only [step, h]

/-- The core's turn always answers a next state: every command does, and so does the end of an illegal one (R331). -/
theorem coreStep_answers (s : State) : ∃ t, s.coreStep = .next t := by
  unfold State.coreStep
  split
  · exact ⟨_, rfl⟩
  · exact ⟨_, rfl⟩
  · split
    · next i _ =>
      obtain ⟨t, ht, -⟩ := exec_answers s i
      exact ⟨t, ht⟩
    · exact ⟨_, rfl⟩

/-- Settles O7: of the events only the core's turn can be anything but a next state, and it is none by `coreStep_answers`. -/
theorem stepAlwaysAnswersNext : Obligations.StepAlwaysAnswersNext := by
  intro s
  cases hin : s.inputs with
  | nil =>
    rw [step_of_empty hin]
    exact coreStep_answers s
  | cons event rest =>
    cases event with
    | core =>
      rw [step_of_core hin]
      exact coreStep_answers _
    | read addr size => exact ⟨_, step_of_read hin⟩
    | write addr size w => exact ⟨_, step_of_write hin⟩
    | rst => exact ⟨_, step_of_rst hin⟩

/-- Settles O6. -/
theorem stepRunsDecodedCommand : Obligations.StepRunsDecodedCommand := by
  refine ⟨fun s j i hphase hdecode => ⟨fun hempty => ?_, fun rest hcore => ?_⟩, fun s hempty => ?_⟩
  · rw [step_of_empty hempty, coreStep_of_decode hphase hdecode]
  · rw [step_of_core hcore, coreStep_of_decode (s := { s with inputs := rest }) hphase hdecode]
  · have hsame : { s with inputs := [] } = s := by rw [← hempty]
    calc step s = s.coreStep := step_of_empty hempty
      _ = State.coreStep { s with inputs := [] } := by rw [hsame]
      _ = step { s with inputs := [.core] } := (step_of_core (s := { s with inputs := [.core] }) rfl).symm

/-! ### The accept -/

theorem word_add_one (c : Word) : c + 1#32 = BitVec.ofNat 32 ((c.toNat + 1) % 2 ^ 32) :=
  BitVec.eq_of_toNat_eq (by simp [BitVec.toNat_add])

/-- Settles O8: `step_write` for the idle core, `step_write_busy_refused` for the busy one. -/
theorem acceptStartsTheCommand : Obligations.AcceptStartsTheCommand := by
  refine fun s w rest hwrite => ⟨fun hidle => ?_, fun hbusy => ?_⟩
  · rw [← word_add_one]
    exact step_write .cmd hwrite (.inl hidle)
  · exact step_write_busy_refused hbusy (by decide) (by decide) hwrite

/-! ### The ends of every command -/

/-- Settles O30: of the ways a core step goes, only the fault sets ERR. -/
theorem faultsArePrecise : Obligations.FaultsArePrecise := by
  intro i s t herr hexec hfault
  cases commandStep_of_exec hexec with
  | fault c named => exact ⟨c, named, s.failWith_spec _ c⟩
  | cancel | finish => simp at hfault
  | goOn u w n _ frame _ =>
    rw [State.stopAt_err, frame] at hfault
    exact absurd hfault (Bool.eq_false_iff.mp herr)

/-- Settles O31: without safe points a core step is a fault or a success. -/
theorem plainCommandsTakeOneStep : Obligations.PlainCommandsTakeOneStep := by
  intro i s hplain
  obtain ⟨t, hexec, hstep⟩ := exec_answers s i
  refine ⟨t, hexec, ?_⟩
  cases hstep with
  | fault => exact ⟨rfl, rfl, rfl, rfl⟩
  | finish u frame _ =>
    rw [frame]
    exact ⟨rfl, rfl, rfl, rfl⟩
  | cancel safePoints | goOn _ _ _ safePoints => simp [hplain] at safePoints

/-! ### Safe points -/

section
variable {i : Instr} {s : State}

/-- Every segment of MODEXP, FERMAT, FERMAT1 and CRT but the first begins with a poll (R322). -/
theorem exec_polls (hsafe : hasSafePoints i = true) (hseg : 1 ≤ s.segment) : ∃ k, exec i s = s.poll k := by
  cases i with
  | modexp d a b c k u =>
    simp only [exec, execModexp]
    split
    · next hfirst => omega
    all_goals exact ⟨_, rfl⟩
  | fermat a k =>
    simp only [exec, execFermat]
    split
    · next hfirst => omega
    · exact ⟨_, rfl⟩
    · split <;> exact ⟨_, rfl⟩
  | fermat1 a k =>
    simp only [exec, execFermat1]
    split
    · next hfirst => omega
    all_goals exact ⟨_, rfl⟩
  | crt d a g u =>
    simp only [exec, execCrt]
    split
    · next hfirst => omega
    all_goals exact ⟨_, rfl⟩
  | _ => cases hsafe

/-- The first segment of the same four runs the command's checks, each with a code of its own, and then stops at the first
safe point (R312, R322). -/
theorem exec_checks (hsafe : hasSafePoints i = true) (hseg : s.segment = 0) :
    ∃ checks w, (∀ x ∈ checks, x.2 ≠ FaultCode.none) ∧
      exec i s = s.guarded (BitVec.ofNat 8 i.opcode) checks (.next (s.stopAt w 1)) := by
  cases i with
  | modexp d a b c k u => exact ⟨_, _, by simp [State.modexpChecks], execModexp_check hseg d a b c k u⟩
  | fermat a k => exact ⟨_, _, by simp [State.fermatChecks], execFermat_check hseg a k⟩
  | fermat1 a k => exact ⟨_, _, by simp [State.fermat1Checks], execFermat1_check hseg a k⟩
  | crt d a g u => exact ⟨_, _, by simp [State.crtChecks], execCrt_check hseg d a g u⟩
  | _ => cases hsafe

end

/-- Settles O32: a poll with a pending cancel is the end by cancellation; the checks name a fault or let the command stop
at its first safe point. -/
theorem safePointsTakeACancel : Obligations.SafePointsTakeACancel := by
  refine fun i s hsafe hpending => ⟨fun n hn hat => ?_, fun hstart => ?_⟩
  · obtain ⟨k, hpoll⟩ := exec_polls hsafe (hn.trans_eq hat.segment.symm)
    exact ⟨_, hpoll.trans (if_pos hpending), s.cancelEnd_spec⟩
  · obtain ⟨checks, w, hnamed, hchecks⟩ := exec_checks hsafe hstart.segment
    rcases s.guarded_cases (BitVec.ofNat 8 i.opcode) checks (.next (s.stopAt w 1)) with ⟨c, hc, hfault⟩ | ⟨-, hpass⟩
    · exact ⟨_, hchecks.trans hfault, hpending, .inr ⟨c, hnamed _ (firstFault_mem hc), s.failWith_spec _ c⟩⟩
    · exact ⟨_, hchecks.trans hpass, hpending, .inl (s.stopAt_spec w 1)⟩

end Sys2Proof.Machine
end

section
/-! PROOFS. Reset (R64, R350, R351): the state it leaves, from RST and from a CTRL write with SRESET set; and the end of
initialisation (R352). -/

namespace Sys2Proof.Machine

/-! ### Reset -/

/-- A reset gives every piece of the spec's state the value of R64. -/
theorem atReset_applyReset (s : State) : AtReset s.applyReset where
  b r := by simp [State.applyReset, State.resetOf]
  tbl k := by simp [State.applyReset, State.resetOf]
  rv r := by simp [State.applyReset, State.resetOf, Config.slots]
  arg0 := rfl
  arg1 := rfl
  res0 := rfl
  res1 := rfl
  flags := rfl
  cmdCount := rfl
  fault := rfl
  inten := rfl
  wsel := rfl
  widx := rfl
  phase := rfl
  status := rfl
  irq := rfl

theorem step_of_softReset {s : State} {w : Word} {rest : List Input} (h : WritesNext s 0x01C w rest)
    (hbit : w.getLsbD 31 = true) : step s = .next (State.applyReset { s with inputs := rest }) := by
  obtain ⟨-, sameAsRst, -⟩ := ctrlWritesAct s w rest
  exact (sameAsRst h hbit).trans (step_of_rst (s := { s with inputs := .rst :: rest }) rfl)

/-- Settles O13: both events are `State.applyReset`, whose values `atReset_applyReset` gives. -/
theorem resetLeavesSpecValues : Obligations.ResetLeavesSpecValues := by
  intro s w rest hreset
  have hstep : step s = .next (State.applyReset { s with inputs := rest }) := by
    rcases hreset with hrst | ⟨hwrite, hbit⟩
    · exact step_of_rst hrst
    · exact step_of_softReset hwrite hbit
  exact ⟨_, hstep, atReset_applyReset _, rfl, rfl⟩

/-! ### Initialisation -/

theorem coreStep_of_init {s : State} (h : s.phase = .init) : s.coreStep = .next s.endInit := by
  simp only [State.coreStep, h]

theorem busy_of_init {s : State} (h : s.phase = .init) : s.busy = true := by
  simp only [State.busy, h]

/-- No bit of STATUS is set once a machine fresh from reset is initialised (R54, R64). -/
theorem statusWord_endInit_resetOf (c : Config) : (State.resetOf c).endInit.statusWord = 0#32 := rfl

/-- Settles O14: the core's turn in INIT is `State.endInit`, and INIT is BUSY, so a CMD write is refused (R88). -/
theorem initialisationEnds : Obligations.InitialisationEnds := by
  refine ⟨fun s w rest hinit => ⟨fun hcore => ?_, fun hempty => ?_, fun hwrite => ?_⟩, fun c => ?_⟩
  · exact (step_of_core hcore).trans (coreStep_of_init (s := { s with inputs := rest }) hinit)
  · exact (step_of_empty hempty).trans (coreStep_of_init hinit)
  · exact step_write_busy_refused (busy_of_init hinit) (by decide) (by decide) hwrite
  · exact ⟨_, (step_of_empty rfl).trans (coreStep_of_init rfl), statusWord_endInit_resetOf c⟩

end Sys2Proof.Machine
end
